-- ==== Sys2Proof/Word.lean ====
section
/-! DEFINITION. The words of the SF416: bytes, channel numbers, record types, and the plainest arithmetic on counts.
A value is a bit vector where the spec lays it out in bits or lets it wrap; counts that saturate are natural numbers
(log 25). -/

namespace Sys2Proof

/-- One byte on a wire of the part (00_scope.md, Conventions). -/
abbrev Byte := BitVec 8

/-- A channel of the link, 0..15 (R13). -/
abbrev ChannelNo := Fin 16

/-- A record type, 12 bits (R1). -/
abbrev RecType := BitVec 12

/-- All channel numbers in ascending order. -/
def allChannels : List ChannelNo := [0, 1, 2, 3, 4, 5, 6, 7, 8, 9, 10, 11, 12, 13, 14, 15]

/-- A saturating sum: it stops at `limit` (00_scope.md, Conventions, Saturating quantities). -/
def satAdd (limit a b : Nat) : Nat := min limit (a + b)

end Sys2Proof
end

