-- ==== Sys2Proof/Syntax.lean ====
section
/-! DEFINITION. The commands of the block: one constructor for each row of spec/opcode_table.json, with the operands that
come from outside the part. What the state already fixes (which channel the engine serves, which job the arbiter takes,
the arguments of a collected management command) is no operand (log 33). -/

namespace Sys2Proof

/-- The levels of the seven strap pins (R165, Figure 10-1). -/
structure Straps where
  mgmtSel : ChannelNo
  spillFitted : Bool
  spillRate : Fin 4
deriving DecidableEq, Repr

/-- The two link ports (R126). -/
inductive Port where
  | upstream
  | downstream
deriving DecidableEq, Repr

/-- The events that can reach a block between the Management Unit's taking of RESTART and that block's own (R172): the
completions of the Spill Port, the channel events, an arriving segment, and what can lead to them. -/
inductive RestartEvent where
  | timebaseTick
  | stall (channel : ChannelNo)
  | awaitTakeSegment
  | takeSegmentFlags
  | completeHeader
  | takePayloadRun
  | beginClose
  | completeClose
  | carryOutPendingPush
  | degradePendingPush
  | takeJob
  | spillCompletion
  | fillCompletion (sdi : List Bool)
  | upstreamLinkDown
  | downstreamLinkDown
  | segmentReceived (unit : List Byte)
  | downstreamSegmentSent
deriving DecidableEq, Repr

/-- The commands, in the order of spec/opcode_table.json. -/
inductive Instr where
  /-- POWER_ON_RESET (R174), with the strap levels latched as RST_N rises. -/
  | powerOnReset (straps : Straps)
  /-- UPSTREAM_LINK_DOWN (R138). -/
  | upstreamLinkDown
  /-- UPSTREAM_LINK_UP (R138). -/
  | upstreamLinkUp
  /-- DOWNSTREAM_LINK_DOWN (R139). -/
  | downstreamLinkDown
  /-- DOWNSTREAM_LINK_UP (R139). -/
  | downstreamLinkUp
  /-- SEGMENT_RECEIVED (R130), with the bytes of the unit on UP_RX. -/
  | segmentReceived (unit : List Byte)
  /-- DOWNSTREAM_SEGMENT_DISCARD (R126), with the bytes of the unit on DN_RX. -/
  | downstreamSegmentDiscard (unit : List Byte)
  /-- CREDIT_WORD_RECEIVED (R133), with the port and the bytes of the unit. -/
  | creditWordReceived (port : Port) (unit : List Byte)
  /-- CREDIT_WORD_GRANT (R132). -/
  | creditWordGrant
  /-- TIMEBASE_TICK (R30). -/
  | timebaseTick
  /-- STALL (R31), with the channel whose running timer has reached 0. -/
  | stall (channel : ChannelNo)
  /-- MGMT_STALL_EXPIRY (R32). -/
  | mgmtStallExpiry
  /-- AWAIT_TAKE_SEGMENT (R18). -/
  | awaitTakeSegment
  /-- TAKE_SEGMENT_FLAGS (R39). -/
  | takeSegmentFlags
  /-- COMPLETE_HEADER (R41). -/
  | completeHeader
  /-- TAKE_PAYLOAD_RUN (R53). -/
  | takePayloadRun
  /-- BEGIN_CLOSE (R56). -/
  | beginClose
  /-- COMPLETE_CLOSE (R57). -/
  | completeClose
  /-- CARRY_OUT_PENDING_PUSH (R49). -/
  | carryOutPendingPush
  /-- DEGRADE_PENDING_PUSH (R78). -/
  | degradePendingPush
  /-- TAKE_JOB (R91). -/
  | takeJob
  /-- SPILL_COMPLETION (R92). -/
  | spillCompletion
  /-- FILL_COMPLETION (R93), with the level of SDI at each of the levels the port drives in the select period. -/
  | fillCompletion (sdi : List Bool)
  /-- PROBE_COMPLETION (R96), with the level of SDI at each of the levels the port drives in the two select periods. -/
  | probeCompletion (sdi : List Bool)
  /-- DOWNSTREAM_SEGMENT_SEND (R136). -/
  | downstreamSegmentSend
  /-- DOWNSTREAM_SEGMENT_SENT (R136). -/
  | downstreamSegmentSent
  /-- RETURN_MESSAGE_BEGIN (R163). -/
  | returnMessageBegin
  /-- RETURN_SEGMENT_SEND (R137). -/
  | returnSegmentSend
  /-- RESPONSE_SENT (R141). -/
  | responseSent
  /-- NOTICE_SENT (R162). -/
  | noticeSent
  /-- MGMT_TAKE_SEGMENT (R142). -/
  | mgmtTakeSegment
  /-- MGMT_PARSE_BYTES (R143). -/
  | mgmtParseBytes
  /-- UNKNOWN_COMMAND (R145). -/
  | unknownCommand
  /-- IDENTIFY (R147). -/
  | identify
  /-- STATUS (R148). -/
  | status
  /-- CHANNEL_SET (R149). -/
  | channelSet
  /-- CHANNEL_GET (R150). -/
  | channelGet
  /-- CHANNEL_RESET (R151). -/
  | channelReset
  /-- POLICY_INSERT (R109). -/
  | policyInsert
  /-- POLICY_DELETE (R110). -/
  | policyDelete
  /-- POLICY_READ (R112). -/
  | policyRead
  /-- DEFAULT_SET (R111). -/
  | defaultSet
  /-- COMMIT (R113). -/
  | commit
  /-- COUNTERS_READ (R157). -/
  | countersRead
  /-- PAIR_READ (R122). -/
  | pairRead
  /-- BACKING_RESTORE (R158). -/
  | backingRestore
  /-- PROVISION_CLOSE (R159). -/
  | provisionClose
  /-- RESTART (R171). -/
  | restart
  /-- COPY_COMPLETION (R115). -/
  | copyCompletion
deriving DecidableEq, Repr

/-- The command that each of these events is when it comes at another time. -/
def RestartEvent.command : RestartEvent → Instr
  | .timebaseTick => .timebaseTick
  | .stall c => .stall c
  | .awaitTakeSegment => .awaitTakeSegment
  | .takeSegmentFlags => .takeSegmentFlags
  | .completeHeader => .completeHeader
  | .takePayloadRun => .takePayloadRun
  | .beginClose => .beginClose
  | .completeClose => .completeClose
  | .carryOutPendingPush => .carryOutPendingPush
  | .degradePendingPush => .degradePendingPush
  | .takeJob => .takeJob
  | .spillCompletion => .spillCompletion
  | .fillCompletion sdi => .fillCompletion sdi
  | .upstreamLinkDown => .upstreamLinkDown
  | .downstreamLinkDown => .downstreamLinkDown
  | .segmentReceived unit => .segmentReceived unit
  | .downstreamSegmentSent => .downstreamSegmentSent

end Sys2Proof
end

