-- ==== Sys2Proof/Decode.lean ====
section
/-! DEFINITION. The reading of a table word. No row of spec/opcode_table.json gives bits ("fields" is empty in every row
and none has "fixed"), so no word spells a command. The layouts the part reads on its wires (records, segments, credit
words, serialized scope entries) are operand forms and stand in Machine/Operands.lean. -/

namespace Sys2Proof

/-- The command that a word of the table's bits spells: none, since no row gives bits. -/
def decodeTableWord (_nbits _w : Nat) : Option Instr := none

end Sys2Proof
end

