-- ==== Sys2Proof/Config.lean ====
section
/-! DEFINITION. What the spec leaves to an implementation. Each constant without a body is a free value: nothing in Lean
can evaluate it, and a claim holds whatever it is. -/

namespace Sys2Proof

/-- A unit of fewer than two bytes cannot hold the CRC that R128 and R133 compare. The spec does not say which link
error count it raises: CRC (true) or BAD_HEADER (false). A free value (log 4). -/
opaque Config.shortUnitCountsAsCrc : List Byte → Bool

/-- The last two bytes of the probe pattern for a value of the probe counter. R96 calls the pattern one of 8 bytes and
compares 8, but its parts make six. The spec does not say what the other two are: a free value (log 29). -/
opaque Config.probeTail : BitVec 16 → BitVec 16

end Sys2Proof
end

