-- ==== Sys2Proof/Machine/State.lean ====
section
/-! DEFINITION. The state of the SF416: every register, buffer, queue, mode and mark the spec gives its ten blocks
(00_scope.md, Figure 0-1), as plain data; the reasons a step could stop; and the state after power-on reset. -/

namespace Sys2Proof.Machine

/-- No condition of the spec stops the part: channel faults, structural faults and refused commands are effects on the
state, so there is no fault of the block. Raised by nobody (safe). -/
inductive Fault where
deriving DecidableEq, Repr

/-- Why a command has no meaning in this model. -/
inductive Refusal where
  /-- Raised by an arm of `exec` whose meaning is not written yet; safe, since the run stops there. -/
  | notModelled (mnemonic : String)
deriving DecidableEq, Repr

/-! ### Ports, segments and the Segment Receiver -/

/-- The state of a link port (R126). -/
inductive PortState where
  | down
  | up
deriving DecidableEq, Repr

/-- The three link error counts, each 0..65535 and saturating (R129). -/
structure LinkErrors where
  crc : Nat
  badHeader : Nat
  overrun : Nat
deriving DecidableEq, Repr

/-- A segment waiting in an ingress buffer: its flags and payload (R127) and its sequence-break mark (R131). -/
structure Segment where
  som : Bool
  eom : Bool
  abort : Bool
  payload : List Byte
  seqBreak : Bool
deriving DecidableEq, Repr

/-- The segment in use (R40): the payload bytes not yet taken, and its EOM flag. -/
structure InUse where
  rest : List Byte
  eom : Bool
deriving DecidableEq, Repr

/-- What the Segment Receiver holds for one channel (R130 to R132). -/
structure RxChannel where
  /-- Credit outstanding, 0..4 (R132). -/
  credit : Nat
  /-- Expected ingress sequence number (R131). -/
  expected : BitVec 4
  /-- The unsynchronised flag (R131). -/
  unsync : Bool
  /-- Segments not yet taken, oldest first (R130). -/
  ingress : List Segment
  /-- The segment in use, which keeps its slot (R40). -/
  inUse : Option InUse
deriving DecidableEq, Repr

/-! ### Scopes -/

/-- The disposition of a scope (R68). -/
inductive Disposition where
  | filter
  | verbatim
  | discard
deriving DecidableEq, Repr

/-- The mode of a scope; a definite scope holds its remaining length, 0..65534 (R68). -/
inductive ScopeMode where
  | definite (remaining : Nat)
  | indefinite
deriving DecidableEq, Repr

/-- A scope entry (R68, Figure 4-1). -/
structure ScopeEntry where
  /-- The input type of the container. -/
  type : RecType
  disposition : Disposition
  mode : ScopeMode
  /-- Input bytes of the children accounted to the scope, 0..16777215, saturating (R54). -/
  consumed : Nat
  /-- The looked-up flag L (R48). -/
  looked : Bool
deriving DecidableEq, Repr

/-- The form of a record (R2). -/
inductive Form where
  | leaf
  | container
deriving DecidableEq, Repr

/-- A record header by its fields (R1, Figure 1-1). -/
structure Header where
  form : Form
  /-- Bits 6..4 of byte 0, which must be zero. -/
  reserved : BitVec 3
  type : RecType
  length : BitVec 16
deriving DecidableEq, Repr

/-- A pending push (R48, R49): the entry formed, the header to be emitted with it (none for a DISCARD scope), and
whether its spill has been refused (R176). -/
structure PendingPush where
  entry : ScopeEntry
  emit : Option Header
  refused : Bool
deriving DecidableEq, Repr

/-- Where the engine stands in a channel's input stream (R16, Figure 2-2). -/
inductive ParsePos where
  /-- HEADER, with the header bytes collected, 0..3. -/
  | header (collected : List Byte)
  /-- COPY, with the count still to copy and the count to skip after it. -/
  | copy (count skip : Nat)
  /-- SKIP, with the count still to skip. -/
  | skip (count : Nat)
  /-- CLOSE-PENDING, with the entry of the scope being closed (R56). -/
  | closePending (entry : ScopeEntry)
deriving DecidableEq, Repr

/-! ### Channels -/

/-- The seven channel states (R16, Figure 2-3). -/
inductive ChannelState where
  | disabled
  | held
  | await
  | inMessage
  | spillWait
  | fillWait
  | drain
deriving DecidableEq, Repr

/-- Where a channel goes when DRAIN ends (R16). -/
inductive DrainExit where
  | await
  | disabled
deriving DecidableEq, Repr

/-- The two policy banks (R106). -/
inductive BankName where
  | a
  | b
deriving DecidableEq, Repr

/-- The fault kinds of Figure 2-4; `none` is code 0. -/
inductive FaultKind where
  | none
  | malformed
  | ragged
  | gap
  | depth
  | noBacking
  | fillCheck
  | stall
  | link
deriving DecidableEq, Repr

/-- The MALFORMED reasons of Figure 1-2; `none` is code 0. -/
inductive Reason where
  | none
  | reservedBits
  | badEnd
  | leafIndefinite
  | strayEnd
  | overrun
  | lateOverrun
deriving DecidableEq, Repr

/-- The bank and set a message is bound to (R19). -/
structure Binding where
  bank : BankName
  set : Fin 8
deriving DecidableEq, Repr

/-- Configuration fields of a data channel (Figure 2-1). -/
structure ChannelConfig where
  enabled : Bool
  policySet : Fin 8
  windowSize : Nat
  maxDepth : Nat
  stallReload : Nat
deriving DecidableEq, Repr

/-- The four statistics of a data channel, each 0..65535 and saturating (R28). -/
structure Statistics where
  completed : Nat
  aborted : Nat
  faults : Nat
  degrades : Nat
deriving DecidableEq, Repr

/-- A data channel record (Figures 2-1 and 2-2) with the channel's window in the Scope Pool (R69, R71). The depth and
the resident count are read off the stack (`Channel.depth`, log 25). -/
structure Channel where
  config : ChannelConfig
  state : ChannelState
  drainExit : DrainExit
  /-- Bound bank and bound set, both or neither. -/
  bound : Option Binding
  /-- The first pool entry of the channel's window, once allocated (R69). -/
  window : Option Nat
  /-- Resident scopes, outermost first (R71). -/
  resident : List ScopeEntry
  /-- Scopes held in the serial memory. -/
  spilled : Nat
  spillInvalid : Bool
  parse : ParsePos
  pendingPush : Option PendingPush
  outputStarted : Bool
  outputDepth : Nat
  degradedThisMessage : Bool
  egressBlocked : Bool
  stallTimer : Nat
  /-- The timer was last loaded with a value other than 0 (R30, log 11). -/
  stallArmed : Bool
  stats : Statistics
  ordinal : BitVec 16
  lastFaultKind : FaultKind
  lastFaultReason : Reason
deriving DecidableEq, Repr

/-! ### Segment Transmitter -/

/-- A segment in an egress buffer; its sequence and CRC are written when it is sent (R135, R136). -/
structure EgressSegment where
  payload : List Byte
  som : Bool
  eom : Bool
  abort : Bool
deriving DecidableEq, Repr

/-- What the Segment Transmitter holds for one data channel (R134, R135). -/
structure TxChannel where
  /-- The egress buffer, head first. -/
  egress : List EgressSegment
  /-- Downstream credits, 0..8 (R133). -/
  credits : Nat
  /-- Egress sequence (R135). -/
  seq : BitVec 4
  /-- The assembler's pending bytes, 0..63 (R135). -/
  pendingBytes : List Byte
  segmentSent : Bool
  flushPending : Bool
deriving DecidableEq, Repr

/-- The segment on the Downstream transmit lane, with its bytes (R136). -/
structure DnSending where
  channel : ChannelNo
  bytes : List Byte
deriving DecidableEq, Repr

/-! ### Spill Port -/

/-- The kind of a queued job (R90). -/
inductive JobKind where
  | spill
  | fill
deriving DecidableEq, Repr

/-- A spill or fill job (R90). -/
structure Job where
  channel : ChannelNo
  kind : JobKind
  /-- The entry count k. -/
  count : Nat
  /-- The start slot. -/
  start : Nat
deriving DecidableEq, Repr

/-- One select period of the serial wires (R88): the command byte, the byte address, the bytes sent on SDO, and how many
data bytes the period carries. -/
structure SelectPeriod where
  command : Byte
  address : BitVec 16
  dataOut : List Byte
  dataCount : Nat
deriving DecidableEq, Repr

/-- The job in flight with its select periods (R88, R91). -/
inductive Transfer where
  | data (job : Job) (period : SelectPeriod)
  | probe (write read : SelectPeriod)
deriving DecidableEq, Repr

/-- The backing states (R95). -/
inductive Backing where
  | absent
  | untested
  | ready
  | suspect
  | lost
deriving DecidableEq, Repr

/-- The state of the Spill Port (05_the_spill_port.md). -/
structure SpillPort where
  /-- Queued jobs, oldest first (R90). -/
  queue : List Job
  inFlight : Option Transfer
  pendingProbe : Bool
  backing : Backing
  /-- The consecutive-failure count, 0..2 (R94). -/
  failures : Nat
  probeCounter : BitVec 16
deriving DecidableEq, Repr

/-! ### Policy Store and Counter Table -/

/-- The action of a policy entry; TRUNCATE carries its limit (R103). -/
inductive Action where
  | pass
  | descend
  | drop
  | truncate (limit : Nat)
deriving DecidableEq, Repr

/-- A default action (R104). -/
inductive DefaultAction where
  | pass
  | descend
  | drop
deriving DecidableEq, Repr

/-- A policy entry (R103, Figure 6-1). -/
structure PolicyEntry where
  set : Fin 8
  type : RecType
  action : Action
  remap : Option RecType
  countIndex : Option (Fin 256)
deriving DecidableEq, Repr

/-- A policy bank (R104, R107). -/
structure Bank where
  /-- Ascending by key. -/
  entries : List PolicyEntry
  defaults : Vector DefaultAction 8
  /-- The reference count, 0..15. -/
  refs : Nat
deriving DecidableEq, Repr

/-- The state of the staging bank (R106). -/
inductive StagingState where
  | ready
  | draining
  | copying
deriving DecidableEq, Repr

/-- The Policy Store (06_policy_tables.md). -/
structure PolicyStore where
  bankA : Bank
  bankB : Bank
  active : BankName
  staging : StagingState
deriving DecidableEq, Repr

/-- A counter pair (R119). -/
structure CounterPair where
  records : Nat
  bytes : Nat
deriving DecidableEq, Repr

/-! ### Management Unit -/

/-- A queued notice, without its LOST value (R161). -/
inductive Notice where
  | channelFault (channel : ChannelNo) (kind : FaultKind) (reason : Reason) (depth : Nat) (ordinal : BitVec 16)
  | degraded (channel : ChannelNo) (ordinal : BitVec 16) (type : RecType) (reason : FaultKind)
  | backingState (backing : Backing) (failures : Nat)
  | commitSettled (bank : BankName)
deriving DecidableEq, Repr

/-- A recorded argument: its leaf type and its payload (R143). -/
structure Arg where
  type : RecType
  value : List Byte
deriving DecidableEq, Repr

/-- A command record as collected: its form and code, the arguments recorded and the notes made (R143). -/
structure CommandRecord where
  /-- The record is a container; a leaf at depth 0 is a record without arguments. -/
  isContainer : Bool
  code : RecType
  args : List Arg
  nested : Bool
  /-- The types of which a duplicate was noted. -/
  duplicates : List RecType
  wrongLength : Bool
  /-- The types of foreign leaves. -/
  foreign : List RecType
deriving DecidableEq, Repr

/-- The collector's parse position (R143). -/
inductive CollectPos where
  /-- HEADER, with the bytes collected. -/
  | header (collected : List Byte)
  /-- The payload of an argument: its type, the bytes still to come, the bytes so far. -/
  | argument (type : RecType) (left : Nat) (value : List Byte)
  /-- A payload that is skipped. -/
  | skip (left : Nat)
  /-- The payload of a leaf at depth 0, whose end completes the record. -/
  | topLeaf (left : Nat)
deriving DecidableEq, Repr

/-- A scope the collector has open: its mode, and the bytes of its children (R8, R143). -/
structure CollectScope where
  mode : ScopeMode
  consumed : Nat
deriving DecidableEq, Repr

/-- The command collector (R141, R143). -/
structure Collector where
  pos : CollectPos
  /-- Open scopes, innermost first, at most two. -/
  scopes : List CollectScope
  command : CommandRecord
deriving DecidableEq, Repr

/-- The executing command (R141): a record to be carried out, or what a command that takes time waits for. The first
argument is the TAG to echo. -/
inductive Executing where
  /-- A completed record, not yet carried out. -/
  | ready (command : CommandRecord)
  /-- COUNTERS READ: the next index, the pairs left, clear, the PAIR leaves so far (R157). -/
  | countersRead (tag : Option (List Byte)) (next left : Nat) (clear : Bool) (leaves : List Byte)
  /-- CHANNEL RESET waiting for the channel to leave DRAIN (R151). -/
  | channelReset (tag : Option (List Byte)) (channel : ChannelNo)
  /-- BACKING RESTORE waiting for its probe (R158). -/
  | backingRestore (tag : Option (List Byte))
  /-- PROVISION CLOSE waiting for its probe (R169). -/
  | provisionClose (tag : Option (List Byte))
deriving DecidableEq, Repr

/-- The states of the Management Unit (R141). -/
inductive UnitState where
  | idle
  | collecting
  | executing (command : Executing)
  | responding
deriving DecidableEq, Repr

/-- The phase (R166). -/
inductive Phase where
  | provisioning
  | operating
deriving DecidableEq, Repr

/-- What a return-path message is; a notice holds the LOST value it carries (R162). -/
inductive ReturnKind where
  | response
  | notice (carried : Nat)
deriving DecidableEq, Repr

/-- The return-path message in progress, with the bytes not yet begun to be sent (R137). -/
structure ReturnMessage where
  kind : ReturnKind
  rest : List Byte
deriving DecidableEq, Repr

/-- A unit put on the return path's lane, with its start symbol (R126, R132, R137). -/
inductive LaneUnit where
  | segment (bytes : List Byte)
  | creditWord (bytes : List Byte)
deriving DecidableEq, Repr

/-- The Management Unit (R141, R164) and the management channel's record (R13). -/
structure MgmtUnit where
  unit : UnitState
  messageOpen : Bool
  collector : Collector
  /-- The response buffer (R146). -/
  response : Option (List Byte)
  /-- The notice queue, oldest first (R162). -/
  notices : List Notice
  lost : Nat
  /-- Return-path credits, 0..4 (R133). -/
  credits : Nat
  /-- Management egress sequence (R137). -/
  seq : BitVec 4
  phase : Phase
  returnMsg : Option ReturnMessage
  /-- The unit last put on the return path's lane. -/
  returnUnit : Option LaneUnit
  stallReload : Nat
  stallTimer : Nat
  stallArmed : Bool
deriving DecidableEq, Repr

/-! ### The machine -/

/-- The state of the SF416. The vectors hold one record for each channel number; the entries of `table` and `tx` at the
management channel's number belong to no data channel and are never used (R13, log 25). -/
structure State where
  straps : Straps
  upPort : PortState
  dnPort : PortState
  linkErrors : LinkErrors
  rx : Vector RxChannel 16
  table : Vector Channel 16
  /-- The engine's service pointer (R35). -/
  pointer : ChannelNo
  /-- The channel whose turn is in progress (R37, R38, log 13). -/
  turn : Option ChannelNo
  spill : SpillPort
  policy : PolicyStore
  counters : Vector CounterPair 256
  tx : Vector TxChannel 16
  /-- The Downstream arbiter's channel served last (R136). -/
  dnPointer : ChannelNo
  dnSending : Option DnSending
  mgmt : MgmtUnit
  /-- Commands waiting, first in first out. -/
  pending : List Instr
  /-- The events that fall between the Management Unit's taking of the next RESTART and the other blocks': the sender's
  choice, like `pending` (R172, log 26). -/
  duringRestart : List RestartEvent
deriving DecidableEq, Repr

/-! ### Power-on values -/

/-- A Segment Receiver record after power-on (R140, Figure 8-4). -/
def RxChannel.powerOn : RxChannel :=
  { credit := 0, expected := 0, unsync := true, ingress := [], inUse := none }

/-- The configuration after power-on (Figure 2-1). -/
def ChannelConfig.powerOn : ChannelConfig :=
  { enabled := true, policySet := 0, windowSize := 8, maxDepth := 16, stallReload := 10000 }

/-- A data channel record after power-on (Figures 2-1 and 2-6). -/
def Channel.powerOn : Channel :=
  { config := ChannelConfig.powerOn
    state := .held
    drainExit := .await
    bound := none
    window := none
    resident := []
    spilled := 0
    spillInvalid := false
    parse := .header []
    pendingPush := none
    outputStarted := false
    outputDepth := 0
    degradedThisMessage := false
    egressBlocked := false
    stallTimer := 0
    stallArmed := false
    stats := { completed := 0, aborted := 0, faults := 0, degrades := 0 }
    ordinal := 0
    lastFaultKind := .none
    lastFaultReason := .none }

/-- A Segment Transmitter record after power-on (Figure 8-4); segment-of-message-sent is clear (log 27). -/
def TxChannel.powerOn : TxChannel :=
  { egress := [], credits := 0, seq := 0, pendingBytes := [], segmentSent := false, flushPending := false }

/-- A bank after power-on (R117). -/
def Bank.powerOn : Bank :=
  { entries := [], defaults := Vector.replicate 8 .pass, refs := 0 }

/-- The Policy Store after power-on (R117). -/
def PolicyStore.powerOn : PolicyStore :=
  { bankA := Bank.powerOn, bankB := Bank.powerOn, active := .a, staging := .ready }

/-- The Spill Port after power-on (R95, R102). -/
def SpillPort.powerOn (fitted : Bool) : SpillPort :=
  { queue := []
    inFlight := none
    pendingProbe := false
    backing := if fitted then .untested else .absent
    failures := 0
    probeCounter := 0 }

/-- A command record with nothing recorded. -/
def CommandRecord.empty : CommandRecord :=
  { isContainer := true, code := 0, args := [], nested := false, duplicates := [], wrongLength := false, foreign := [] }

/-- The empty collector. -/
def Collector.empty : Collector :=
  { pos := .header [], scopes := [], command := CommandRecord.empty }

/-- The Management Unit after power-on (R164), with the management channel's record (R34). -/
def MgmtUnit.powerOn : MgmtUnit :=
  { unit := .idle
    messageOpen := false
    collector := Collector.empty
    response := none
    notices := []
    lost := 0
    credits := 0
    seq := 0
    phase := .provisioning
    returnMsg := none
    returnUnit := none
    stallReload := 10000
    stallTimer := 0
    stallArmed := false }

/-- The part right after a power-on reset that latches `straps` (R174), with no command waiting. -/
def State.powerOn (straps : Straps) : State :=
  { straps := straps
    upPort := .down
    dnPort := .down
    linkErrors := { crc := 0, badHeader := 0, overrun := 0 }
    rx := Vector.replicate 16 RxChannel.powerOn
    table := Vector.replicate 16 Channel.powerOn
    pointer := 15
    turn := none
    spill := SpillPort.powerOn straps.spillFitted
    policy := PolicyStore.powerOn
    counters := Vector.replicate 256 { records := 0, bytes := 0 }
    tx := Vector.replicate 16 TxChannel.powerOn
    dnPointer := 15
    dnSending := none
    mgmt := MgmtUnit.powerOn
    pending := []
    duringRestart := [] }

/-- The strap levels of `State.reset`: management channel 0, memory fitted, rate 0. DESIGN CHOICE (log 3): the straps are
pins, and POWER_ON_RESET takes any levels. -/
def Straps.atReset : Straps := { mgmtSel := 0, spillFitted := true, spillRate := 0 }

/-- The machine right after reset. -/
def State.reset : State := State.powerOn Straps.atReset

end Sys2Proof.Machine
end

