-- ==== Sys2Proof/Machine/Access.lean ====
section
/-! DEFINITION. The one way to read and write each record of the state: per-channel records of the Segment Receiver, the
Channel Table and the Segment Transmitter, and the blocks that hold one record each. -/

namespace Sys2Proof.Machine

/-- The channel record of `c` (R13). -/
def State.ch (s : State) (c : ChannelNo) : Channel := s.table[c]

/-- The Segment Receiver's record of `c`. -/
def State.rxOf (s : State) (c : ChannelNo) : RxChannel := s.rx[c]

/-- The Segment Transmitter's record of `c`. -/
def State.txOf (s : State) (c : ChannelNo) : TxChannel := s.tx[c]

def State.setCh (s : State) (c : ChannelNo) (x : Channel) : State := { s with table := s.table.set c x }

def State.setRx (s : State) (c : ChannelNo) (x : RxChannel) : State := { s with rx := s.rx.set c x }

def State.setTx (s : State) (c : ChannelNo) (x : TxChannel) : State := { s with tx := s.tx.set c x }

def State.modCh (s : State) (c : ChannelNo) (f : Channel → Channel) : State := s.setCh c (f (s.ch c))

def State.modRx (s : State) (c : ChannelNo) (f : RxChannel → RxChannel) : State := s.setRx c (f (s.rxOf c))

def State.modTx (s : State) (c : ChannelNo) (f : TxChannel → TxChannel) : State := s.setTx c (f (s.txOf c))

/-- Changes every Segment Receiver record. -/
def State.mapRx (s : State) (f : ChannelNo → RxChannel → RxChannel) : State :=
  { s with rx := Vector.ofFn fun c => f c (s.rxOf c) }

/-- Changes every channel record. -/
def State.mapCh (s : State) (f : ChannelNo → Channel → Channel) : State :=
  { s with table := Vector.ofFn fun c => f c (s.ch c) }

/-- Changes every Segment Transmitter record. -/
def State.mapTx (s : State) (f : ChannelNo → TxChannel → TxChannel) : State :=
  { s with tx := Vector.ofFn fun c => f c (s.txOf c) }

def State.modSpill (s : State) (f : SpillPort → SpillPort) : State := { s with spill := f s.spill }

def State.modPolicy (s : State) (f : PolicyStore → PolicyStore) : State := { s with policy := f s.policy }

def State.modMgmt (s : State) (f : MgmtUnit → MgmtUnit) : State := { s with mgmt := f s.mgmt }

def State.modErrors (s : State) (f : LinkErrors → LinkErrors) : State := { s with linkErrors := f s.linkErrors }

/-- Ends the engine's turn (R38). -/
def State.endTurn (s : State) : State := { s with turn := none }

/-- A data channel: any channel but the management channel (R13). -/
def State.isData (s : State) (c : ChannelNo) : Bool := c != s.straps.mgmtSel

/-- A bank of the Policy Store. -/
def PolicyStore.bank (p : PolicyStore) : BankName → Bank
  | .a => p.bankA
  | .b => p.bankB

def PolicyStore.setBank (p : PolicyStore) (n : BankName) (x : Bank) : PolicyStore :=
  match n with
  | .a => { p with bankA := x }
  | .b => { p with bankB := x }

/-- The other bank. -/
def BankName.other : BankName → BankName
  | .a => .b
  | .b => .a

/-- The staging bank (R106). -/
def PolicyStore.stagingBank (p : PolicyStore) : BankName := p.active.other

/-- The number of open scopes (R9): resident count plus spilled count (R16). -/
def Channel.depth (ch : Channel) : Nat := ch.resident.length + ch.spilled

/-- The innermost resident scope (R71). -/
def Channel.innermost (ch : Channel) : Option ScopeEntry := ch.resident.getLast?

/-- Changes the innermost resident scope, if there is one. -/
def Channel.modInnermost (ch : Channel) (f : ScopeEntry → ScopeEntry) : Channel :=
  match ch.innermost with
  | none => ch
  | some e => { ch with resident := ch.resident.dropLast ++ [f e] }

/-- Occupied ingress slots: segments waiting and the one in use (R40, R132). -/
def RxChannel.occupied (r : RxChannel) : Nat := r.ingress.length + (if r.inUse.isSome then 1 else 0)

/-- A message is open on the channel (02_channels.md, Channel states). -/
def ChannelState.messageOpen : ChannelState → Bool
  | .inMessage | .spillWait | .fillWait => true
  | .disabled | .held | .await | .drain => false

/-- The channel state a drain exit names. -/
def DrainExit.toState : DrainExit → ChannelState
  | .await => .await
  | .disabled => .disabled

end Sys2Proof.Machine
end

