-- ==== Sys2Proof/Machine/Operands.lean ====
section
/-! DEFINITION. The operand forms: how records, segments, credit words, serialized scope entries, probe patterns and the
leaves of the management protocol are read from bytes and written as bytes. Every multi-byte field is sent most
significant byte first (00_scope.md, Conventions). -/

namespace Sys2Proof.Machine

/-! ### Numbers as bytes -/

/-- The `n` low bytes of `v`, most significant first. -/
def numBytes : (n v : Nat) → List Byte
  | 0, _ => []
  | n + 1, v => BitVec.ofNat 8 (v / 256 ^ n) :: numBytes n v

/-- The number that bytes spell, most significant first. -/
def bytesNum (bs : List Byte) : Nat := bs.foldl (fun n b => 256 * n + b.toNat) 0

/-- The two bytes of a 16-bit word. -/
def wordBytes (w : BitVec 16) : List Byte := [w.extractLsb' 8 8, w.extractLsb' 0 8]

def flagByte (b : Bool) : Byte := if b then 1 else 0

/-! ### The two CRCs -/

/-- One shift of the CRC-16 register: the polynomial hex 1021 is added whenever a 1 leaves the top (R127). -/
def crc16Shift (r : BitVec 16) : BitVec 16 := if r.msb then (r <<< 1) ^^^ 0x1021#16 else r <<< 1

/-- A byte enters the CRC-16 register most significant bit first. -/
def crc16Byte (r : BitVec 16) (b : Byte) : BitVec 16 :=
  [0, 1, 2, 3, 4, 5, 6, 7].foldl (fun r (_ : Nat) => crc16Shift r) (r ^^^ (b ++ 0#8))

/-- The CRC of a segment or credit word (R127): initial value hex FFFF, nothing added at the end. -/
def crc16 (bs : List Byte) : BitVec 16 := bs.foldl crc16Byte 0xFFFF#16

/-- One shift of the CRC-8 register with polynomial hex 07 (R89). -/
def crc8Shift (r : Byte) : Byte := if r.msb then (r <<< 1) ^^^ 0x07#8 else r <<< 1

def crc8Byte (r b : Byte) : Byte :=
  [0, 1, 2, 3, 4, 5, 6, 7].foldl (fun r (_ : Nat) => crc8Shift r) (r ^^^ b)

/-- The CRC-8 of a serialized scope entry (R89): initial value 0. -/
def crc8 (bs : List Byte) : Byte := bs.foldl crc8Byte 0

/-! ### Record headers (R1) -/

/-- The header that four bytes spell (Figure 1-1). -/
def Header.ofBytes (b0 b1 b2 b3 : Byte) : Header :=
  { form := if b0.msb then .container else .leaf
    reserved := b0.extractLsb' 4 3
    type := b0.extractLsb' 0 4 ++ b1
    length := b2 ++ b3 }

/-- The first two bytes of a header as one word: form, must-be-zero bits, type. -/
def Header.typeWord (h : Header) : BitVec 16 :=
  BitVec.ofBool (h.form == .container) ++ h.reserved ++ h.type

/-- The four bytes of a header. -/
def Header.toBytes (h : Header) : List Byte := wordBytes h.typeWord ++ wordBytes h.length

/-- The length that marks a container as indefinite (R1). -/
def indefiniteLength : BitVec 16 := 0xFFFF#16

def Header.isIndefinite (h : Header) : Bool := h.length == indefiniteLength

/-- The End record: the leaf of type 0 and length 0 (R3). -/
def Header.isEnd (h : Header) : Bool := h.form == .leaf && h.type == 0 && h.length == 0

/-- The four bytes of an End record (R3). -/
def endRecord : List Byte := [0, 0, 0, 0]

/-- The size of a leaf or definite container (R2). -/
def Header.size (h : Header) : Nat := 4 + h.length.toNat

/-- A header the part emits. -/
def Header.make (form : Form) (type : RecType) (length : BitVec 16) : Header :=
  { form := form, reserved := 0, type := type, length := length }

/-- The header that bytes spell, when there are four. -/
def Header.ofList : List Byte → Option Header
  | [b0, b1, b2, b3] => some (Header.ofBytes b0 b1 b2 b3)
  | _ => none

/-! ### Units on the link (R126 to R128, R133) -/

/-- The link error count an invalid unit raises (R129). -/
inductive UnitError where
  | crc
  | badHeader
deriving DecidableEq, Repr

/-- The bytes of a unit before its CRC, when the CRC agrees (R128). A unit of fewer than two bytes holds no CRC, and
which count it raises is a free value (log 4). -/
def checkUnit (u : List Byte) : Except UnitError (List Byte) :=
  if u.length < 2 then
    .error (if Config.shortUnitCountsAsCrc u then .crc else .badHeader)
  else
    let body := u.take (u.length - 2)
    if u.drop (u.length - 2) == wordBytes (crc16 body) then .ok body else .error .crc

/-- The channel in the high four bits of a byte. -/
def channelOf (b : Byte) : ChannelNo := ⟨(b.extractLsb' 4 4).toNat, (b.extractLsb' 4 4).isLt⟩

/-- A segment as received: its channel, its sequence number, its flags and payload. -/
structure ReceivedSegment where
  channel : ChannelNo
  seq : BitVec 4
  som : Bool
  eom : Bool
  abort : Bool
  payload : List Byte
deriving DecidableEq, Repr

/-- The header tests of R128 on the bytes before the CRC. Fewer than four bytes cannot be a header (log 5). -/
def segmentOfBody : List Byte → Except UnitError ReceivedSegment
  | b0 :: b1 :: b2 :: b3 :: payload =>
    let som := b1.getLsbD 7
    let eom := b1.getLsbD 6
    let abort := b1.getLsbD 5
    if b1.extractLsb' 0 5 != 0 || b3 != 0 || 64 < b2.toNat || payload.length != b2.toNat
        || (b2 == 0 && !eom && !abort) || (abort && b2 != 0) then .error .badHeader
    else .ok { channel := channelOf b0, seq := b0.extractLsb' 0 4, som, eom, abort, payload }
  | _ => .error .badHeader

/-- A segment unit tested as R128 states: the CRC first, then the header. -/
def decodeSegment (u : List Byte) : Except UnitError ReceivedSegment :=
  match checkUnit u with
  | .error e => .error e
  | .ok body => segmentOfBody body

/-- A channel number in the high four bits and four more bits below it. -/
def channelByte (c : ChannelNo) (low : BitVec 4) : Byte := BitVec.ofNat 4 c.val ++ low

/-- The bytes of a segment before its CRC (Figure 8-2). -/
def segmentBody (c : ChannelNo) (seq : BitVec 4) (som eom abort : Bool) (payload : List Byte) : List Byte :=
  [channelByte c seq, BitVec.ofBool som ++ BitVec.ofBool eom ++ BitVec.ofBool abort ++ 0#5,
    BitVec.ofNat 8 payload.length, 0] ++ payload

/-- Appends the CRC. -/
def withCrc (body : List Byte) : List Byte := body ++ wordBytes (crc16 body)

/-- The bytes of a segment on a lane (R127). -/
def encodeSegment (c : ChannelNo) (seq : BitVec 4) (som eom abort : Bool) (payload : List Byte) : List Byte :=
  withCrc (segmentBody c seq som eom abort payload)

/-- A credit word's channel and count, tested for content as R133 states; `managed` says whether the channel is one the
port takes. -/
def creditOfBody (managed : ChannelNo → Bool) : List Byte → Except UnitError (ChannelNo × Nat)
  | [b0, b1] =>
    if b0.extractLsb' 0 4 != 0 || b1 == 0 || 8 < b1.toNat || !managed (channelOf b0) then .error .badHeader
    else .ok (channelOf b0, b1.toNat)
  | _ => .error .badHeader

/-- A credit word unit tested as R133 states. -/
def decodeCredit (managed : ChannelNo → Bool) (u : List Byte) : Except UnitError (ChannelNo × Nat) :=
  match checkUnit u with
  | .error e => .error e
  | .ok body => creditOfBody managed body

/-- The bytes of a credit word (Figure 8-3). -/
def encodeCredit (c : ChannelNo) (count : Nat) : List Byte := withCrc [channelByte c 0, BitVec.ofNat 8 count]

/-! ### Serialized scope entries and the probe pattern (R89, R96) -/

def Disposition.code : Disposition → BitVec 2
  | .filter => 0
  | .verbatim => 1
  | .discard => 2

def ScopeMode.isIndefinite : ScopeMode → Bool
  | .definite _ => false
  | .indefinite => true

/-- The remaining length of a definite scope; an indefinite scope is written with 0 (Figure 5-3). -/
def ScopeMode.remaining : ScopeMode → Nat
  | .definite n => n
  | .indefinite => 0

/-- Bytes 0 to 6 of a serialized entry (Figure 5-3). -/
def ScopeEntry.fieldBytes (e : ScopeEntry) : List Byte :=
  wordBytes (e.disposition.code ++ BitVec.ofBool e.mode.isIndefinite ++ BitVec.ofBool e.looked ++ e.type)
    ++ numBytes 2 e.mode.remaining ++ numBytes 3 e.consumed

/-- The check byte of seven bytes for a channel and slot (R89). -/
def checkByte (bs : List Byte) (c : ChannelNo) (slot : Nat) : Byte :=
  crc8 (bs ++ [BitVec.ofNat 8 c.val, BitVec.ofNat 8 slot])

/-- The eight bytes of an entry in a slot of a channel's area (R89). -/
def ScopeEntry.serialize (e : ScopeEntry) (c : ChannelNo) (slot : Nat) : List Byte :=
  e.fieldBytes ++ [checkByte e.fieldBytes c slot]

/-- The entries of a job, from its start slot upward (R92). -/
def serializeAll (c : ChannelNo) : (start : Nat) → List ScopeEntry → List Byte
  | _, [] => []
  | slot, e :: es => e.serialize c slot ++ serializeAll c (slot + 1) es

/-- The disposition that two bits name; 3 names none (R93). -/
def Disposition.ofCode (b : BitVec 2) : Option Disposition :=
  if b == 0 then some .filter else if b == 1 then some .verbatim else if b == 2 then some .discard else none

/-- The entry that seven bytes spell, when its fields pass the tests of R93. -/
def ScopeEntry.ofFields (b0 b1 b2 b3 b4 b5 b6 : Byte) : Option ScopeEntry :=
  let remaining := bytesNum [b2, b3]
  let type : RecType := b0.extractLsb' 0 4 ++ b1
  let indefinite := b0.getLsbD 5
  match Disposition.ofCode (b0.extractLsb' 6 2) with
  | none => none
  | some d =>
    if (!indefinite && d != .filter) || type == 0 || 0xFFFE < remaining || (indefinite && remaining != 0) then none
    else some
      { type := type, disposition := d, mode := if indefinite then .indefinite else .definite remaining,
        consumed := bytesNum [b4, b5, b6], looked := b0.getLsbD 4 }

/-- One entry verified as the entry of a slot (R93): its check byte, then its fields. -/
def ScopeEntry.verify (c : ChannelNo) (slot : Nat) : List Byte → Option ScopeEntry
  | [b0, b1, b2, b3, b4, b5, b6, check] =>
    if check == checkByte [b0, b1, b2, b3, b4, b5, b6] c slot then ScopeEntry.ofFields b0 b1 b2 b3 b4 b5 b6 else none
  | _ => none

/-- The entries of a fill, all of them good, or none (R93: a fill is all or nothing). -/
def verifyAll (c : ChannelNo) : (k slot : Nat) → List Byte → Option (List ScopeEntry)
  | 0, _, _ => some []
  | k + 1, slot, bs =>
    match ScopeEntry.verify c slot (bs.take 8), verifyAll c k (slot + 1) (bs.drop 8) with
    | some e, some es => some (e :: es)
    | _, _ => none

/-- The byte address of a slot (R85). -/
def slotAddress (c : ChannelNo) (slot : Nat) : BitVec 16 := BitVec.ofNat 16 (c.val * 512 + 8 * slot)

/-- The probe location (R85, R96). -/
def probeAddress : BitVec 16 := 0x2000#16

/-- The probe pattern for a counter value (R96): the six bytes whose parts the spec gives, then the two it does not
(log 29). -/
def probePattern (counter : BitVec 16) : List Byte :=
  [0x5A, 0xA5] ++ wordBytes counter ++ wordBytes (~~~counter) ++ wordBytes (Config.probeTail counter)

/-- The command bytes of a write and a read (R88). -/
def writeCommand : Byte := 0x02

def readCommand : Byte := 0x03

/-! ### The serial wires (R87, R88) -/

/-- The divider of the 25 MHz reference clock that the SPILL_RATE straps select (Figure 5-1). -/
def sckDivider : Fin 4 → Nat
  | 0 => 2
  | 1 => 4
  | 2 => 8
  | 3 => 16

/-- The levels of the three wires the port drives; yes is high (R87). -/
structure WireLevels where
  sselN : Bool
  sck : Bool
  sdo : Bool
deriving DecidableEq, Repr

/-- The wires at rest (R87). -/
def WireLevels.rest : WireLevels := { sselN := true, sck := false, sdo := false }

/-- The bytes on SDO in a select period (R88): the command, the address most significant byte first, then the data of a
write. In a read SDO is held low while the data bytes come in. -/
def SelectPeriod.sent (p : SelectPeriod) : List Byte :=
  p.command :: wordBytes p.address ++ p.dataOut ++ List.replicate (p.dataCount - p.dataOut.length) 0

/-- The bits of a byte in the order they are sent: most significant first (R87). -/
def byteBits (b : Byte) : List Bool := [7, 6, 5, 4, 3, 2, 1, 0].map b.getLsbD

/-- One bit on the wires: it stands on SDO before SCK rises and changes as SCK falls (R87, clock mode 0). -/
def bitLevels (b : Bool) : List WireLevels :=
  [{ sselN := false, sck := false, sdo := b }, { sselN := false, sck := true, sdo := b }]

/-- The levels the port drives in a select period, in order (R88): SSEL_N falls, the bits are sent, SCK falls after the last
one, and the wires return to rest (log 40). -/
def SelectPeriod.levels (p : SelectPeriod) : List WireLevels :=
  (p.sent.flatMap byteBits).flatMap bitLevels ++ [{ WireLevels.rest with sselN := false }, WireLevels.rest]

/-- The levels the port drives from the beginning of what it has in flight to its end; at rest with nothing in flight. -/
def SpillPort.levels (p : SpillPort) : List WireLevels :=
  match p.inFlight with
  | none => [WireLevels.rest]
  | some (.data _ period) => WireLevels.rest :: period.levels
  | some (.probe write read) => WireLevels.rest :: (write.levels ++ read.levels)

/-- SDI sampled at the rising edges of SCK within a select period (R87): `ds` holds the level of SDI at each of the driven
levels, and `sck` is the level of SCK before the first. -/
def risingSamples : (sck : Bool) → List WireLevels → (ds : List Bool) → List Bool
  | sck, w :: ws, d :: ds =>
    if !w.sselN && w.sck && !sck then d :: risingSamples w.sck ws ds else risingSamples w.sck ws ds
  | _, [], _ | _, _ :: _, [] => []

/-- The byte that received bits spell, most significant first (R87). -/
def bitsByte (bits : List Bool) : Byte := BitVec.ofNat 8 (bits.foldl (fun n b => 2 * n + b.toNat) 0)

/-- The bytes that received bits spell. -/
def bitsBytes : (count : Nat) → List Bool → List Byte
  | 0, _ => []
  | n + 1, bits => bitsByte (bits.take 8) :: bitsBytes n (bits.drop 8)

/-- The data bytes received on SDI in a read select period: what is sampled during the command and address bytes is ignored
(R88). -/
def SelectPeriod.received (p : SelectPeriod) (sdi : List Bool) : List Byte :=
  bitsBytes p.dataCount ((risingSamples false p.levels sdi).drop 24)

/-! ### Codes of the management protocol (Figures 9-1, 9-2, 1-2, 2-4) -/

def FaultKind.code : FaultKind → Nat
  | .none => 0
  | .malformed => 1
  | .ragged => 2
  | .gap => 3
  | .depth => 4
  | .noBacking => 5
  | .fillCheck => 6
  | .stall => 7
  | .link => 8

def Reason.code : Reason → Nat
  | .none => 0
  | .reservedBits => 1
  | .badEnd => 2
  | .leafIndefinite => 3
  | .strayEnd => 4
  | .overrun => 5
  | .lateOverrun => 6

def ChannelState.code : ChannelState → Nat
  | .disabled => 0
  | .held => 1
  | .await => 2
  | .inMessage => 3
  | .spillWait => 4
  | .fillWait => 5
  | .drain => 6

def DrainExit.code : DrainExit → Nat
  | .await => 0
  | .disabled => 1

def BankName.code : BankName → Nat
  | .a => 0
  | .b => 1

def StagingState.code : StagingState → Nat
  | .ready => 0
  | .draining => 1
  | .copying => 2

def Backing.code : Backing → Nat
  | .absent => 0
  | .untested => 1
  | .ready => 2
  | .suspect => 3
  | .lost => 4

def Phase.code : Phase → Nat
  | .provisioning => 0
  | .operating => 1

def PortState.code : PortState → Nat
  | .down => 0
  | .up => 1

def Action.code : Action → Nat
  | .pass => 0
  | .descend => 1
  | .drop => 2
  | .truncate _ => 3

def DefaultAction.code : DefaultAction → Nat
  | .pass => 0
  | .descend => 1
  | .drop => 2

/-- The completion codes (Figure 9-2). -/
inductive Completion where
  | ok
  | busy
  | exists_
  | notFound
  | full
  | locked
  | badArgument
  | badState
  | unknownCommand
  | malformedCommand
deriving DecidableEq, Repr

def Completion.code : Completion → Nat
  | .ok => 0
  | .busy => 1
  | .exists_ => 2
  | .notFound => 3
  | .full => 4
  | .locked => 5
  | .badArgument => 6
  | .badState => 7
  | .unknownCommand => 8
  | .malformedCommand => 9

/-! Leaf types (Figure 9-1). -/

def Leaf.tag : RecType := 0x001
def Leaf.result : RecType := 0x002
def Leaf.lost : RecType := 0x003
def Leaf.channel : RecType := 0x010
def Leaf.enabled : RecType := 0x011
def Leaf.policySet : RecType := 0x012
def Leaf.windowSize : RecType := 0x013
def Leaf.maxDepth : RecType := 0x014
def Leaf.stallReload : RecType := 0x015
def Leaf.clear : RecType := 0x016
def Leaf.role : RecType := 0x020
def Leaf.set : RecType := 0x021
def Leaf.type : RecType := 0x022
def Leaf.action : RecType := 0x023
def Leaf.remap : RecType := 0x024
def Leaf.countIndex : RecType := 0x025
def Leaf.limit : RecType := 0x026
def Leaf.position : RecType := 0x027
def Leaf.firstIndex : RecType := 0x028
def Leaf.count : RecType := 0x029
def Leaf.vendor : RecType := 0x030
def Leaf.part : RecType := 0x031
def Leaf.revision : RecType := 0x032
def Leaf.straps : RecType := 0x033
def Leaf.phase : RecType := 0x034
def Leaf.backing : RecType := 0x035
def Leaf.failures : RecType := 0x036
def Leaf.bank : RecType := 0x037
def Leaf.staging : RecType := 0x038
def Leaf.refCounts : RecType := 0x039
def Leaf.links : RecType := 0x03A
def Leaf.linkErrors : RecType := 0x03B
def Leaf.notices : RecType := 0x03C
def Leaf.entryCount : RecType := 0x03D
def Leaf.default : RecType := 0x03E
def Leaf.pair : RecType := 0x03F
def Leaf.state : RecType := 0x040
def Leaf.bound : RecType := 0x041
def Leaf.depth : RecType := 0x042
def Leaf.flags : RecType := 0x043
def Leaf.parse : RecType := 0x044
def Leaf.outputDepth : RecType := 0x045
def Leaf.stallTimer : RecType := 0x046
def Leaf.statistics : RecType := 0x047
def Leaf.ordinal : RecType := 0x048
def Leaf.fault : RecType := 0x049
def Leaf.sequence : RecType := 0x04A
def Leaf.faultDepth : RecType := 0x04B
def Leaf.degradeReason : RecType := 0x04C

/-- The argument types and the exact length of each (Figure 9-1). -/
def argTable : List (RecType × Nat) :=
  [(Leaf.tag, 2), (Leaf.channel, 1), (Leaf.enabled, 1), (Leaf.policySet, 1), (Leaf.windowSize, 1), (Leaf.maxDepth, 1),
    (Leaf.stallReload, 2), (Leaf.clear, 1), (Leaf.role, 1), (Leaf.set, 1)] ++
  [(Leaf.type, 2), (Leaf.action, 1), (Leaf.remap, 2), (Leaf.countIndex, 1), (Leaf.limit, 2), (Leaf.position, 2),
    (Leaf.firstIndex, 1), (Leaf.count, 1)]

/-- The byte count of an argument type, if the type is one. -/
def argLength (t : RecType) : Option Nat := argTable.lookup t

/-- The values an argument may take (Figure 9-1). -/
def argInRange (t : RecType) (v : Nat) : Bool :=
  if t == Leaf.channel then v ≤ 15
  else if t == Leaf.enabled || t == Leaf.clear || t == Leaf.role then v ≤ 1
  else if t == Leaf.policySet || t == Leaf.set then v ≤ 7
  else if t == Leaf.windowSize then v == 0 || v == 2 || v == 4 || v == 8 || v == 16
  else if t == Leaf.maxDepth then 1 ≤ v && v ≤ 64
  else if t == Leaf.type || t == Leaf.remap then 1 ≤ v && v ≤ 4095
  else if t == Leaf.action then v ≤ 3
  else if t == Leaf.limit then v ≤ 65534
  else if t == Leaf.position then v ≤ 1023
  else if t == Leaf.count then 1 ≤ v && v ≤ 16
  else true

/-! ### Leaves, responses and notices as bytes -/

/-- A leaf with its payload. -/
def leafBytes (t : RecType) (payload : List Byte) : List Byte :=
  (Header.make .leaf t (BitVec.ofNat 16 payload.length)).toBytes ++ payload

/-- A leaf whose payload is one number of `n` bytes. -/
def numLeaf (t : RecType) (n v : Nat) : List Byte := leafBytes t (numBytes n v)

/-- A definite container with its children (R146, R161). -/
def containerBytes (t : RecType) (children : List Byte) : List Byte :=
  (Header.make .container t (BitVec.ofNat 16 children.length)).toBytes ++ children

/-- The STATE leaf of a channel (Figure 9-1). -/
def Channel.stateLeaf (ch : Channel) : List Byte :=
  leafBytes Leaf.state (numBytes 1 ch.state.code ++ numBytes 1 ch.drainExit.code)

/-- The BOUND leaf. -/
def Channel.boundLeaf (ch : Channel) : List Byte :=
  leafBytes Leaf.bound (match ch.bound with
    | none => [0xFF, 0xFF]
    | some b => numBytes 1 b.bank.code ++ numBytes 1 b.set.val)

/-- The DEPTH leaf: depth, resident count, spilled count (R175). -/
def Channel.depthLeaf (ch : Channel) : List Byte :=
  leafBytes Leaf.depth (numBytes 1 ch.depth ++ numBytes 1 ch.resident.length ++ numBytes 1 ch.spilled)

/-- The FLAGS leaf, whose last byte is the unsynchronised flag (R150). -/
def Channel.flagsLeaf (ch : Channel) (unsync : Bool) : List Byte :=
  leafBytes Leaf.flags
    [flagByte ch.spillInvalid, flagByte ch.outputStarted, flagByte ch.degradedThisMessage, flagByte ch.egressBlocked,
      flagByte unsync]

/-- The PARSE leaf (Figure 9-1). -/
def ParsePos.leaf (p : ParsePos) : List Byte :=
  leafBytes Leaf.parse (match p with
    | .header bs => numBytes 1 0 ++ numBytes 2 bs.length ++ numBytes 2 0
    | .copy n m => numBytes 1 1 ++ numBytes 2 n ++ numBytes 2 m
    | .skip n => numBytes 1 2 ++ numBytes 2 n ++ numBytes 2 0
    | .closePending _ => numBytes 1 3 ++ numBytes 2 0 ++ numBytes 2 0)

/-- The STATISTICS leaf. -/
def Statistics.leaf (t : Statistics) : List Byte :=
  leafBytes Leaf.statistics
    (numBytes 2 t.completed ++ numBytes 2 t.aborted ++ numBytes 2 t.faults ++ numBytes 2 t.degrades)

/-- The FAULT leaf. -/
def faultLeaf (k : FaultKind) (r : Reason) : List Byte := leafBytes Leaf.fault (numBytes 1 k.code ++ numBytes 1 r.code)

/-- The configuration leaves of CHANNEL GET (R150). -/
def ChannelConfig.leaves (f : ChannelConfig) : List Byte :=
  leafBytes Leaf.enabled [flagByte f.enabled] ++ numLeaf Leaf.policySet 1 f.policySet.val
    ++ numLeaf Leaf.windowSize 1 f.windowSize ++ numLeaf Leaf.maxDepth 1 f.maxDepth
    ++ numLeaf Leaf.stallReload 2 f.stallReload

/-- The live-field leaves of CHANNEL GET, in the order of R150. -/
def Channel.liveLeaves (ch : Channel) (unsync : Bool) : List Byte :=
  ch.stateLeaf ++ ch.boundLeaf ++ ch.depthLeaf ++ ch.flagsLeaf unsync ++ ch.parse.leaf
    ++ numLeaf Leaf.outputDepth 1 ch.outputDepth ++ numLeaf Leaf.stallTimer 2 ch.stallTimer ++ ch.stats.leaf
    ++ leafBytes Leaf.ordinal (wordBytes ch.ordinal) ++ faultLeaf ch.lastFaultKind ch.lastFaultReason

/-- The leaves of a policy entry in POLICY READ's answer (R155). -/
def PolicyEntry.leaves (e : PolicyEntry) : List Byte :=
  numLeaf Leaf.set 1 e.set.val ++ numLeaf Leaf.type 2 e.type.toNat ++ numLeaf Leaf.action 1 e.action.code
    ++ (match e.remap with
      | none => []
      | some t => numLeaf Leaf.remap 2 t.toNat)
    ++ (match e.countIndex with
      | none => []
      | some i => numLeaf Leaf.countIndex 1 i.val)
    ++ (match e.action with
      | .truncate limit => numLeaf Leaf.limit 2 limit
      | .pass | .descend | .drop => [])

/-- The PAIR leaf (Figure 9-1). -/
def CounterPair.leaf (p : CounterPair) (index : Nat) : List Byte :=
  leafBytes Leaf.pair (numBytes 1 index ++ numBytes 4 p.records ++ numBytes 6 p.bytes)

/-- The record type of a notice (R161). -/
def Notice.type : Notice → RecType
  | .channelFault .. => 0xD01
  | .degraded .. => 0xD02
  | .backingState .. => 0xD03
  | .commitSettled .. => 0xD04

/-- The leaves of a notice after LOST (R161). -/
def Notice.leaves : Notice → List Byte
  | .channelFault c k r d o =>
    numLeaf Leaf.channel 1 c.val ++ faultLeaf k r ++ numLeaf Leaf.faultDepth 1 d ++ leafBytes Leaf.ordinal (wordBytes o)
  | .degraded c o t k =>
    numLeaf Leaf.channel 1 c.val ++ leafBytes Leaf.ordinal (wordBytes o) ++ numLeaf Leaf.type 2 t.toNat
      ++ numLeaf Leaf.degradeReason 1 k.code
  | .backingState backing n => numLeaf Leaf.backing 1 backing.code ++ numLeaf Leaf.failures 1 n
  | .commitSettled bank => numLeaf Leaf.bank 1 bank.code

/-- The notice's record, with the LOST value written as it is begun (R161, R162). -/
def Notice.toBytes (n : Notice) (lost : Nat) : List Byte :=
  containerBytes n.type (numLeaf Leaf.lost 1 lost ++ n.leaves)

/-- The record type of the response to a command code: hex E00 plus the code less hex F00 (R146). -/
def responseType (code : RecType) : RecType := code - 0x100

/-- A response record (R146): TAG where it is echoed, RESULT, then the result leaves. -/
def responseBytes (type : RecType) (tag : Option (List Byte)) (result : Completion) (leaves : List Byte) : List Byte :=
  containerBytes type
    ((match tag with
      | none => []
      | some t => leafBytes Leaf.tag t) ++ numLeaf Leaf.result 1 result.code ++ leaves)

/-! ### Arguments of a command record -/

/-- The payload of a recorded argument. -/
def CommandRecord.arg (r : CommandRecord) (t : RecType) : Option (List Byte) :=
  (r.args.find? (fun a => a.type == t)).map Arg.value

/-- The value of a recorded argument. -/
def CommandRecord.value (r : CommandRecord) (t : RecType) : Option Nat := (r.arg t).map bytesNum

def CommandRecord.has (r : CommandRecord) (t : RecType) : Bool := (r.arg t).isSome

/-- The TAG a response echoes: the one given, where exactly one of length 2 was (R145). -/
def CommandRecord.tag (r : CommandRecord) : Option (List Byte) :=
  if r.duplicates.contains Leaf.tag then none else r.arg Leaf.tag

end Sys2Proof.Machine
end

