-- ==== Sys2Proof/Machine/Flags.lean ====
section
/-! DEFINITION. The conditions the part computes from its state: header tests, egress room, what a channel is owed, when a
timer runs, which channel the engine serves and what step it takes, grants due, the checks before a push. -/

namespace Sys2Proof.Machine

/-! ### Header tests (R5 to R8) -/

/-- The tests of a header on its own, in the order of R5. -/
def headerFault (h : Header) : Option Reason :=
  if h.reserved != 0 then some .reservedBits
  else if h.type == 0 && !h.isEnd then some .badEnd
  else if h.form == .leaf && h.isIndefinite then some .leafIndefinite
  else none

/-- The test and deduction of R7 against the mode of the innermost scope: the mode after it, or none for OVERRUN. -/
def ScopeMode.deductChild (m : ScopeMode) (h : Header) : Option ScopeMode :=
  match m with
  | .indefinite => some .indefinite
  | .definite r =>
    if h.isIndefinite then if r < 4 then none else some (.definite r)
    else if r < h.size then none else some (.definite (r - h.size))

/-- The test and deduction of R8 for a closed indefinite child: the mode after it, or none for LATE_OVERRUN. -/
def ScopeMode.deductTotal (m : ScopeMode) (total : Nat) : Option ScopeMode :=
  match m with
  | .indefinite => some .indefinite
  | .definite r => if r < total then none else some (.definite (r - total))

/-- The greatest consumed count (R8, R54). -/
def consumedMax : Nat := 16777215

/-- The total of a closed scope (R54): 4 for its header, its children, and 4 for its End record if it is indefinite. -/
def ScopeEntry.total (e : ScopeEntry) : Nat :=
  4 + e.consumed + (if e.mode.isIndefinite then 4 else 0)

/-- Adds to a scope's consumed count (R54). -/
def ScopeEntry.account (e : ScopeEntry) (n : Nat) : ScopeEntry :=
  { e with consumed := satAdd consumedMax e.consumed n }

/-! ### Channel conditions -/

/-- The parse position is at a record boundary (R11). -/
def ParsePos.atBoundary (p : ParsePos) : Bool := p == .header []

/-- The COPY position for a payload, or the position it stands for when a count is 0 (R44, R46, R53). -/
def ParsePos.payload (copy skip : Nat) : ParsePos :=
  if 0 < copy then .copy copy skip else if 0 < skip then .skip skip else .header []

/-- The innermost scope is a definite one owed its close (R55). -/
def Channel.owedClose (ch : Channel) : Bool :=
  ch.parse.atBoundary && ch.pendingPush.isNone &&
    match ch.innermost with
    | some e => e.mode == .definite 0
    | none => false

/-- A clean end is possible: depth 0, a record boundary, output depth 0 (R11, R65). -/
def Channel.cleanEnd (ch : Channel) : Bool := ch.depth == 0 && ch.parse.atBoundary && ch.outputDepth == 0

/-- The parse position is CLOSE-PENDING. -/
def ParsePos.isClosePending : ParsePos → Bool
  | .closePending _ => true
  | .header _ | .copy _ _ | .skip _ => false

/-- The ingress buffer holds nothing unprocessed (R30, log 12). -/
def RxChannel.quiet (r : RxChannel) : Bool := r.ingress.isEmpty && r.inUse.isNone

/-- A data channel's stall timer runs (R30). -/
def stallRuns (ch : Channel) (r : RxChannel) : Bool :=
  ch.state == .inMessage && r.quiet && !ch.parse.isClosePending && !ch.egressBlocked && ch.pendingPush.isNone
    && !ch.owedClose && ch.stallArmed

/-- The management stall timer runs (R32). -/
def State.mgmtStallRuns (s : State) : Bool :=
  s.mgmt.unit == .collecting && (s.rxOf s.straps.mgmtSel).quiet && s.mgmt.stallArmed

/-! ### Egress room (R63, R134) -/

/-- A terminal segment carries EOM or ABORT (R134). -/
def EgressSegment.terminal (g : EgressSegment) : Bool := g.eom || g.abort

/-- Ordinary slots in use. A segment keeps its slot until its last byte is sent (R136, log 8). -/
def TxChannel.ordinaryCount (t : TxChannel) : Nat := (t.egress.filter fun g => !g.terminal).length

/-- An ordinary slot is free, of the seven (R134). -/
def TxChannel.ordinaryFree (t : TxChannel) : Bool := t.ordinaryCount < 7

/-- The reserved slot holds a terminal segment. -/
def TxChannel.terminalWaiting (t : TxChannel) : Bool := t.egress.any EgressSegment.terminal

/-- A unit of `n` bytes may be handed to the assembler (R63). -/
def TxChannel.room (t : TxChannel) (started : Bool) (n : Nat) : Bool :=
  (started || !t.terminalWaiting) && (t.pendingBytes.length + n < 64 || t.ordinaryFree)

/-- The channel has egress room for a unit of `n` bytes. -/
def State.hasRoom (s : State) (c : ChannelNo) (n : Nat) : Bool := (s.txOf c).room (s.ch c).outputStarted n

/-! ### Receiving and grants (R132) -/

/-- A channel is allowed to receive (R132). -/
def State.mayReceive (s : State) (c : ChannelNo) : Bool :=
  !s.isData c || ((s.ch c).config.enabled && s.mgmt.phase == .operating)

/-- A channel's grant due (R132). -/
def State.grantDue (s : State) (c : ChannelNo) : Nat :=
  if s.mayReceive c then 4 - (s.rxOf c).occupied - (s.rxOf c).credit else 0

/-- The lowest-numbered channel with a grant due (R132). -/
def State.firstGrant (s : State) : Option ChannelNo := allChannels.find? fun c => 0 < s.grantDue c

/-- The return path's lane is free: the last segment of a message holds it until RESPONSE_SENT or NOTICE_SENT (log 14). -/
def State.returnLaneFree (s : State) : Bool :=
  s.upPort == .up && match s.mgmt.returnMsg with
    | none => true
    | some m => !m.rest.isEmpty

/-! ### Service of the channels (R35 to R38) -/

/-- The kinds of engine step the table names. -/
inductive EngineStep where
  | awaitTake
  | takeFlags
  | completeHeader
  | payloadRun
  | beginClose
  | completeClose
  | carryOutPush
  | degradePush
deriving DecidableEq, Repr

/-- The step the engine takes next for a channel, or none when the channel is not eligible (R36, R38). -/
def engineStep (ch : Channel) (r : RxChannel) : Option EngineStep :=
  match ch.state with
  | .await => if r.ingress.isEmpty then none else some .awaitTake
  | .inMessage =>
    if ch.egressBlocked then none
    else match ch.pendingPush with
      | some p => some (if p.refused then .degradePush else .carryOutPush)
      | none =>
        if ch.parse.isClosePending then some .completeClose
        else if ch.owedClose then some .beginClose
        else match r.inUse, ch.parse with
          | some _, .header _ => some .completeHeader
          | some _, _ => some .payloadRun
          | none, _ => if r.ingress.isEmpty then none else some .takeFlags
  | .disabled | .held | .spillWait | .fillWait | .drain => none

/-- The step the engine takes next for a data channel; none for the management channel (R35). -/
def State.stepFor (s : State) (c : ChannelNo) : Option EngineStep :=
  if s.isData c then engineStep (s.ch c) (s.rxOf c) else none

/-- The channels in the order a round-robin search considers them: upward after `p`, wrapping, `p` last (R37, R136). -/
def searchAfter (p : ChannelNo) : List ChannelNo := allChannels.map fun i => p + 1 + i

/-- The channel whose turn goes on: it still has a step to take (R38, log 13). -/
def State.turnGoesOn (s : State) : Option ChannelNo :=
  match s.turn with
  | some c => if (s.stepFor c).isSome then some c else none
  | none => none

/-- The channel the engine serves: the one whose turn goes on, or else the first eligible one after the pointer (R37). -/
def State.served (s : State) : Option ChannelNo :=
  match s.turnGoesOn with
  | some c => some c
  | none => (searchAfter s.pointer).find? fun c => (s.stepFor c).isSome

/-- The channel the engine serves, if the step it takes there is `k`. -/
def State.servedFor (s : State) (k : EngineStep) : Option ChannelNo :=
  match s.served with
  | some c => if s.stepFor c == some k then some c else none
  | none => none

/-! ### Scopes and the backing (R72, R81) -/

/-- READY and SUSPECT permit spills and fills (R95). -/
def Backing.usable : Backing → Bool
  | .ready | .suspect => true
  | .absent | .untested | .lost => false

/-- The checks before a push, in the order of Figure 4-3: the kind the first failing one gives (R72). -/
def pushCheck (ch : Channel) (b : Backing) : Option FaultKind :=
  if ch.config.maxDepth < ch.depth + 1 then some .depth
  else if ch.config.windowSize == 0 then some .noBacking
  else if ch.config.windowSize ≤ ch.resident.length && (ch.spillInvalid || !b.usable) then some .noBacking
  else none

/-- The window is full: a push needs a spill first (R73). -/
def Channel.windowFull (ch : Channel) : Bool := ch.config.windowSize ≤ ch.resident.length

/-- An entry whose container can be degraded: a FILTER scope of definite mode (R73). -/
def ScopeEntry.degradable (e : ScopeEntry) : Bool := e.disposition == .filter && !e.mode.isIndefinite

/-- A fill that is needed may be raised (R81). -/
def fillAllowed (ch : Channel) (b : Backing) : Bool := !ch.spillInvalid && b.usable

/-- The channel's job is in flight on the Spill Port. -/
def SpillPort.carries (p : SpillPort) (c : ChannelNo) : Bool :=
  match p.inFlight with
  | some (.data j _) => j.channel == c
  | some (.probe _ _) => false
  | none => false

/-! ### Policy lookups (R42, R108) -/

/-- The order of keys: set first, type second (R104). -/
def PolicyEntry.keyBefore (e : PolicyEntry) (set : Fin 8) (type : RecType) : Bool :=
  e.set < set || (e.set == set && e.type < type)

/-- An entry with a key. -/
def PolicyEntry.hasKey (e : PolicyEntry) (set : Fin 8) (type : RecType) : Bool := e.set == set && e.type == type

def Bank.find (b : Bank) (set : Fin 8) (type : RecType) : Option PolicyEntry :=
  b.entries.find? fun e => e.hasKey set type

/-- The position of the first entry whose key is not before a key (R105). -/
def Bank.position (b : Bank) (set : Fin 8) (type : RecType) : Nat :=
  (b.entries.takeWhile fun e => e.keyBefore set type).length

/-- What a lookup returns: the action, the remap type and the count index (R42). -/
structure Verdict where
  action : Action
  remap : Option RecType
  countIndex : Option (Fin 256)
deriving DecidableEq, Repr

def DefaultAction.toAction : DefaultAction → Action
  | .pass => .pass
  | .descend => .descend
  | .drop => .drop

/-- A lookup in a bank: a hit's entry, or the set's default action (R42, R108). -/
def Bank.lookup (b : Bank) (set : Fin 8) (type : RecType) : Verdict :=
  match b.find set type with
  | some e => { action := e.action, remap := e.remap, countIndex := e.countIndex }
  | none => { action := b.defaults[set].toAction, remap := none, countIndex := none }

/-- The lookup a channel's record gets in its bound bank and set (R42); without a binding no lookup is made. -/
def State.lookupFor (s : State) (c : ChannelNo) (type : RecType) : Verdict :=
  match (s.ch c).bound with
  | some b => (s.policy.bank b.bank).lookup b.set type
  | none => { action := .pass, remap := none, countIndex := none }

end Sys2Proof.Machine
end

