-- ==== Sys2Proof/Machine/Ops.lean ====
section
/-! DEFINITION. The operations several commands share: notices, counts, bank references, output, channel faults and the
unwind, the entry into LOST, and the forming of responses. -/

namespace Sys2Proof.Machine

/-- The maximum of the 16-bit saturating counts (R28, R129). -/
def count16Max : Nat := 65535

/-! ### Notices, counters and bank references -/

/-- Places a notice at the tail of the notice queue, or drops it and raises the lost count (R161, R162). -/
def State.queueNotice (s : State) (n : Notice) : State :=
  s.modMgmt fun m =>
    if m.notices.length < 32 then { m with notices := m.notices ++ [n] } else { m with lost := satAdd 255 m.lost 1 }

def recordCountMax : Nat := 4294967295

def byteCountMax : Nat := 281474976710655

/-- An increment request, taken whole, each count saturating on its own (R119, R120). -/
def CounterPair.raise (p : CounterPair) (records bytes : Nat) : CounterPair :=
  { records := satAdd recordCountMax p.records records, bytes := satAdd byteCountMax p.bytes bytes }

/-- An increment request for a counter index, if the record has one (R60, R61, R120). -/
def State.count (s : State) (index : Option (Fin 256)) (records bytes : Nat) : State :=
  match index with
  | none => s
  | some i => { s with counters := s.counters.set i (s.counters[i].raise records bytes) }

/-- Lowers a bank's reference count by 1; the last release of a DRAINING bank begins the copy (R107, R114). -/
def PolicyStore.release (p : PolicyStore) (n : BankName) : PolicyStore :=
  let refs := (p.bank n).refs - 1
  let q := p.setBank n { p.bank n with refs := refs }
  if n == p.stagingBank && p.staging == .draining && refs == 0 then { q with staging := .copying } else q

/-- Raises a bank's reference count by 1 (R107). -/
def PolicyStore.bind (p : PolicyStore) (n : BankName) : PolicyStore :=
  p.setBank n { p.bank n with refs := (p.bank n).refs + 1 }

/-- Releases the bank a channel's message is bound to (R24, R65, R107). -/
def State.releaseBound (s : State) (b : Option Binding) : State :=
  match b with
  | none => s
  | some b => s.modPolicy fun p => p.release b.bank

/-! ### Output (R62 to R65, R135) -/

/-- Places an ordinary segment; the first of a message carries SOM (R135). -/
def TxChannel.placeOrdinary (t : TxChannel) (payload : List Byte) : TxChannel :=
  { t with
    egress := t.egress ++ [{ payload := payload, som := !t.segmentSent, eom := false, abort := false }]
    segmentSent := true }

/-- Closes the pending bytes into an ordinary segment (R135). -/
def TxChannel.closePending (t : TxChannel) : TxChannel :=
  { t.placeOrdinary t.pendingBytes with pendingBytes := [], flushPending := false }

/-- Hands the assembler a unit: its bytes join the pending bytes, and 64 of them are closed into a segment (R135). -/
def TxChannel.hand (t : TxChannel) (u : List Byte) : TxChannel :=
  let p := t.pendingBytes ++ u
  if 64 ≤ p.length then { t.placeOrdinary (p.take 64) with pendingBytes := p.drop 64, flushPending := false }
  else { t with pendingBytes := p }

/-- A flush: the pending bytes are closed if an ordinary slot is free, and else the flush mark is set (R64, R135). -/
def TxChannel.flush (t : TxChannel) : TxChannel :=
  if t.pendingBytes.isEmpty then t
  else if t.ordinaryFree then t.closePending
  else { t with flushPending := true }

/-- The terminal segment with EOM, holding the pending bytes (R65, R135). -/
def TxChannel.closeMessage (t : TxChannel) : TxChannel :=
  { t with
    egress := t.egress ++ [{ payload := t.pendingBytes, som := !t.segmentSent, eom := true, abort := false }]
    pendingBytes := []
    segmentSent := true
    flushPending := false }

/-- The pending bytes are discarded (R24, R34). -/
def TxChannel.dropPending (t : TxChannel) : TxChannel := { t with pendingBytes := [], flushPending := false }

/-- The zero-length terminal segment with ABORT takes the reserved slot (R135). -/
def TxChannel.placeAbort (t : TxChannel) : TxChannel :=
  { t with
    egress := t.egress ++ [{ payload := [], som := !t.segmentSent, eom := false, abort := true }]
    segmentSent := true }

/-- The output side of an unwind (R24 step 4): pending bytes are discarded, and an ABORT is queued if output has started
and the cause allows one. -/
def TxChannel.unwind (t : TxChannel) (started sendAbort : Bool) : TxChannel :=
  if started && sendAbort then t.dropPending.placeAbort else t.dropPending

/-- Hands a unit for a channel: output has started (R62). -/
def State.hand (s : State) (c : ChannelNo) (u : List Byte) : State :=
  (s.modTx c fun t => t.hand u).modCh c fun ch => { ch with outputStarted := true }

/-- Hands a header, if there is one to emit. -/
def State.emitHeader (s : State) (c : ChannelNo) (h : Option Header) : State :=
  match h with
  | none => s
  | some h => s.hand c h.toBytes

/-! ### The end of a message: fault and unwind -/

/-- Removes a channel's queued job; no transfer is made for it (R24 step 1, R79). -/
def State.removeJob (s : State) (c : ChannelNo) : State :=
  s.modSpill fun p => { p with queue := p.queue.filter fun j => j.channel != c }

/-- The channel record after an unwind (R24 steps 2, 3, 5, 6). Output-started becomes no, as Figure 2-7 says (log 9). -/
def Channel.unwound (ch : Channel) (inFlight : Bool) (exit : DrainExit) : Channel :=
  { ch with
    state := if inFlight then .drain else exit.toState
    drainExit := if inFlight then exit else ch.drainExit
    bound := none
    resident := []
    spilled := 0
    spillInvalid := false
    parse := .header []
    pendingPush := none
    outputStarted := false
    outputDepth := 0
    egressBlocked := false }

/-- Ends a channel's open message (R24). `sendAbort` is no for a Downstream link down; `exit` is DISABLED for a disable. The
remainder of the segment in use is discarded with the message (R40). -/
def State.unwind (s : State) (c : ChannelNo) (sendAbort : Bool) (exit : DrainExit) : State :=
  ((((s.removeJob c).releaseBound (s.ch c).bound).modTx c fun t => t.unwind (s.ch c).outputStarted sendAbort).modRx c
    fun r => { r with inUse := none }).modCh c fun ch => ch.unwound (s.spill.carries c) exit

/-- The record of a fault (R23 step 1). -/
def Channel.recordFault (ch : Channel) (k : FaultKind) (r : Reason) : Channel :=
  { ch with
    lastFaultKind := k
    lastFaultReason := r
    stats := { ch.stats with faults := satAdd count16Max ch.stats.faults 1 } }

/-- Raises a fault on a channel with a message open: record, notice, unwind (R23). -/
def State.fault (s : State) (c : ChannelNo) (k : FaultKind) (r : Reason) (sendAbort : Bool) : State :=
  (((s.modCh c fun ch => ch.recordFault k r).queueNotice
    (.channelFault c k r (s.ch c).depth (s.ch c).ordinal)).unwind c sendAbort .await)

/-- A fault the engine finds in a step: the turn ends (R38, R67). -/
def State.engineFault (s : State) (c : ChannelNo) (k : FaultKind) (r : Reason) : State :=
  (s.fault c k r true).endTurn

/-- Loads a channel's stall timer with its stall reload; a timer loaded with 0 does not run (R30). -/
def Channel.loadStall (ch : Channel) : Channel :=
  { ch with stallTimer := ch.config.stallReload, stallArmed := ch.config.stallReload != 0 }

/-- Loads the management stall timer (R32). -/
def MgmtUnit.loadStall (m : MgmtUnit) : MgmtUnit :=
  { m with stallTimer := m.stallReload, stallArmed := m.stallReload != 0 }

/-- Ends the turn in progress when its channel has no step left after a claim from another block (R38, log 13). -/
def State.settleTurn (s : State) : State := { s with turn := s.turnGoesOn }

/-- Puts a job at the tail of the job queue (R90). -/
def State.raiseJob (s : State) (j : Job) : State := s.modSpill fun p => { p with queue := p.queue ++ [j] }

/-! ### Responses -/

/-- Forms a response in the response buffer and goes to RESPONDING (R146). -/
def State.respond (s : State) (type : RecType) (tag : Option (List Byte)) (result : Completion) (leaves : List Byte) :
    State :=
  s.modMgmt fun m => { m with unit := .responding, response := some (responseBytes type tag result leaves) }

/-- Answers a command record. -/
def State.answer (s : State) (r : CommandRecord) (result : Completion) (leaves : List Byte) : State :=
  s.respond (responseType r.code) r.tag result leaves

/-- Command codes (Figure 9-3). -/
def Cmd.identify : RecType := 0xF01
def Cmd.status : RecType := 0xF02
def Cmd.channelSet : RecType := 0xF03
def Cmd.channelGet : RecType := 0xF04
def Cmd.channelReset : RecType := 0xF05
def Cmd.policyInsert : RecType := 0xF06
def Cmd.policyDelete : RecType := 0xF07
def Cmd.policyRead : RecType := 0xF08
def Cmd.defaultSet : RecType := 0xF09
def Cmd.commit : RecType := 0xF0A
def Cmd.countersRead : RecType := 0xF0B
def Cmd.backingRestore : RecType := 0xF0C
def Cmd.provisionClose : RecType := 0xF0D
def Cmd.restart : RecType := 0xF0E

/-- Answers a CHANNEL RESET that waits for this channel to leave DRAIN (R151). -/
def State.answerReset (s : State) (c : ChannelNo) : State :=
  match s.mgmt.unit with
  | .executing (.channelReset tag d) =>
    if d == c then s.respond (responseType Cmd.channelReset) tag .ok (s.ch c).stateLeaf else s
  | .executing (.ready _) | .executing (.countersRead ..) | .executing (.backingRestore _)
  | .executing (.provisionClose _) | .idle | .collecting | .responding => s

/-- A channel in DRAIN goes to its drain exit, and a CHANNEL RESET waiting for it is answered (R25, R151). -/
def State.leaveDrain (s : State) (c : ChannelNo) : State :=
  (s.modCh c fun ch => { ch with state := ch.drainExit.toState }).answerReset c

/-! ### The backing -/

/-- Queues a BACKING STATE notice with the state and count as they stand (R100). -/
def State.noticeBacking (s : State) : State := s.queueNotice (.backingState s.spill.backing s.spill.failures)

/-- A job completed as REFUSED is handed to its channel (R78, R82, R98 step 4). -/
def State.refuseJob (s : State) (j : Job) : State :=
  match (s.ch j.channel).state with
  | .spillWait =>
    match (s.ch j.channel).pendingPush with
    | none => s
    | some p =>
      if p.entry.degradable then
        s.modCh j.channel fun ch => { ch with state := .inMessage, pendingPush := some { p with refused := true } }
      else s.fault j.channel .noBacking .none true
  | .fillWait => s.fault j.channel .noBacking .none true
  | .disabled | .held | .await | .inMessage | .drain => s

/-- Marks spill-invalid every data channel with spilled scopes (R83). -/
def State.markSpillInvalid (s : State) : State :=
  s.mapCh fun c ch => if s.isData c && 0 < ch.spilled then { ch with spillInvalid := true } else ch

/-- The entry into LOST: state, marking, notice, refusals, in that order (R98). -/
def State.enterLost (s : State) : State :=
  let t := ((s.modSpill fun p => { p with backing := .lost }).markSpillInvalid).noticeBacking
  t.spill.queue.foldl State.refuseJob (t.modSpill fun p => { p with queue := [] })

/-! ### Opening and closing the part -/

/-- The opening step of PROVISION CLOSE (R170): phase, channels, response; the grants due follow from the state. -/
def State.openPart (s : State) (tag : Option (List Byte)) : State :=
  let opens := fun c => s.isData c && (s.ch c).config.enabled && (s.ch c).state == .held
  (((s.modMgmt fun m => { m with phase := .operating }).mapCh fun c ch =>
      if opens c then { ch with state := .await } else ch).mapRx fun c r =>
        if opens c then { r with unsync := true } else r).respond (responseType Cmd.provisionClose) tag .ok
    (numLeaf Leaf.backing 1 s.spill.backing.code)

/-- A structural fault of the management stream (R144): the partial command is dropped, the message is closed, the rest of
the segment in use is discarded, and a CHANNEL FAULT notice names the management channel. -/
def State.structuralFault (s : State) (k : FaultKind) (r : Reason) (depth : Nat) : State :=
  ((s.modMgmt fun m => { m with unit := .idle, messageOpen := false, collector := Collector.empty }).modRx
    s.straps.mgmtSel fun x => { x with inUse := none }).queueNotice (.channelFault s.straps.mgmtSel k r depth 0)

/-- The management message ends without a fault, and the unit goes to IDLE (R141, R142). -/
def State.closeMgmtMessage (s : State) : State :=
  s.modMgmt fun m => { m with unit := .idle, messageOpen := false, collector := Collector.empty }

/-- Considers the EOM of a management segment whose last byte has been taken, and frees its slot (R142). -/
def State.finishMgmtSegment (s : State) : State :=
  match (s.rxOf s.straps.mgmtSel).inUse with
  | none => s
  | some u =>
    if !u.rest.isEmpty then s
    else if !u.eom then s.modRx s.straps.mgmtSel fun x => { x with inUse := none }
    else if s.mgmt.collector.scopes.isEmpty && s.mgmt.collector.pos == .header [] then
      (s.modRx s.straps.mgmtSel fun x => { x with inUse := none }).closeMgmtMessage
    else s.structuralFault .ragged .none s.mgmt.collector.scopes.length

end Sys2Proof.Machine
end

