-- ==== Sys2Proof/Machine/Collector.lean ====
section
/-! DEFINITION. The Management Unit's intake (R141 to R144): taking segments of the management channel, and collecting
command records from their bytes. -/

namespace Sys2Proof.Machine

/-- What a byte does to the collector: it goes on, a command record completes, or the stream faults with a kind, a reason
and the depth at which the fault was found (R143, R144). -/
inductive Collected where
  | more (c : Collector)
  | complete (c : Collector)
  | faulted (kind : FaultKind) (reason : Reason) (depth : Nat)
deriving DecidableEq, Repr

/-- The collector back at a record boundary: the command scope, if it is definite and used up, closes, and its record is
complete (R143). -/
def Collector.boundary (c : Collector) : Collected :=
  match c.scopes with
  | { mode := .definite 0, consumed := _ } :: _ => .complete { c with pos := .header [], scopes := [] }
  | _ => .more { c with pos := .header [] }

/-- Skips a payload of `n` bytes. -/
def Collector.skipPayload (c : Collector) (n : Nat) : Collected :=
  if n == 0 then c.boundary else .more { c with pos := .skip n }

def Collector.modCommand (c : Collector) (f : CommandRecord → CommandRecord) : Collector :=
  { c with command := f c.command }

/-- Records an argument, or notes a duplicate of its type (R143). -/
def CommandRecord.record (r : CommandRecord) (t : RecType) (v : List Byte) : CommandRecord :=
  if r.has t then { r with duplicates := r.duplicates ++ [t] }
  else { r with args := r.args ++ [{ type := t, value := v }] }

/-- A header at depth 0 begins a command record, or a leaf that is a record of its own (R143). -/
def Collector.topHeader (c : Collector) (h : Header) : Collected :=
  match h.form with
  | .container =>
    { c with
      command := { CommandRecord.empty with isContainer := true, code := h.type }
      scopes := [{ mode := if h.isIndefinite then .indefinite else .definite h.length.toNat, consumed := 0 }] }.boundary
  | .leaf =>
    let d := { c with command := { CommandRecord.empty with isContainer := false, code := h.type } }
    if h.length == 0 then .complete { d with pos := .header [] }
    else .more { d with pos := .topLeaf h.length.toNat }

/-- A header inside the command scope: an argument, a foreign leaf, or a nested container (R143). -/
def Collector.argumentHeader (c : Collector) (h : Header) : Collected :=
  match h.form with
  | .leaf =>
    match argLength h.type with
    | none => (c.modCommand fun r => { r with foreign := r.foreign ++ [h.type] }).skipPayload h.length.toNat
    | some n =>
      if h.length.toNat == n then .more { c with pos := .argument h.type n [] }
      else (c.modCommand fun r => { r with wrongLength := true }).skipPayload h.length.toNat
  | .container =>
    let d := c.modCommand fun r => { r with nested := true }
    if h.isIndefinite then
      .more { d with pos := .header [], scopes := { mode := .indefinite, consumed := 0 } :: d.scopes }
    else d.skipPayload h.length.toNat

/-- A header inside the second scope: it is skipped, and a third scope is a fault of kind DEPTH (R143). -/
def Collector.nestedHeader (c : Collector) (h : Header) : Collected :=
  if h.isIndefinite then .faulted .depth .none c.scopes.length else c.skipPayload h.length.toNat

/-- An End record: it closes the innermost scope if that is indefinite, with the deduction of R8 (R6, R143). -/
def Collector.endHeader (c : Collector) : Collected :=
  match c.scopes with
  | [] => .faulted .malformed .strayEnd 0
  | sc :: outer =>
    match sc.mode with
    | .definite _ => .faulted .malformed .strayEnd c.scopes.length
    | .indefinite =>
      match outer with
      | [] => .complete { c with pos := .header [], scopes := [] }
      | p :: ps =>
        match p.mode.deductTotal (4 + sc.consumed + 4) with
        | none => .faulted .malformed .lateOverrun outer.length
        | some m =>
          { c with scopes := { mode := m, consumed := satAdd consumedMax p.consumed (4 + sc.consumed + 4) } :: ps }.boundary

/-- Deducts and counts a child's header in the innermost scope (R7, R8); none for OVERRUN. -/
def Collector.deduct (c : Collector) (h : Header) : Option Collector :=
  match c.scopes with
  | [] => some c
  | sc :: outer =>
    match sc.mode.deductChild h with
    | none => none
    | some m =>
      let n := if h.isIndefinite then 0 else h.size
      some { c with scopes := { mode := m, consumed := satAdd consumedMax sc.consumed n } :: outer }

/-- A completed header, tested and handled where it stands (R143). -/
def Collector.header (c : Collector) (h : Header) : Collected :=
  match headerFault h with
  | some r => .faulted .malformed r c.scopes.length
  | none =>
    if h.isEnd then c.endHeader
    else match c.deduct h with
      | none => .faulted .malformed .overrun c.scopes.length
      | some d =>
        match d.scopes with
        | [] => d.topHeader h
        | [_] => d.argumentHeader h
        | _ :: _ :: _ => d.nestedHeader h

/-- One byte of the management stream (R143). -/
def Collector.byte (c : Collector) (b : Byte) : Collected :=
  match c.pos with
  | .header got =>
    match Header.ofList (got ++ [b]) with
    | none => .more { c with pos := .header (got ++ [b]) }
    | some h => c.header h
  | .argument t left v =>
    if left ≤ 1 then (c.modCommand fun r => r.record t (v ++ [b])).boundary
    else .more { c with pos := .argument t (left - 1) (v ++ [b]) }
  | .skip left => if left ≤ 1 then c.boundary else .more { c with pos := .skip (left - 1) }
  | .topLeaf left =>
    if left ≤ 1 then .complete { c with pos := .header [] } else .more { c with pos := .topLeaf (left - 1) }

/-- Parses bytes until a command record completes, the stream faults, or they run out; with the bytes left. -/
def Collector.run (c : Collector) : List Byte → Collected × List Byte
  | [] => (.more c, [])
  | b :: bs =>
    match c.byte b with
    | .more d => d.run bs
    | .complete d => (.complete d, bs)
    | .faulted k r n => (.faulted k r n, bs)

/-- The management channel's segment in use, with other bytes left. -/
def State.setMgmtRest (s : State) (u : InUse) (rest : List Byte) : State :=
  s.modRx s.straps.mgmtSel fun r => { r with inUse := some { u with rest := rest } }

/-- Parses the payload bytes of the management segment in use (R143); once they run out, its EOM is considered (R142). A
segment whose last byte completes a command keeps its slot until the response has been sent, with or without EOM (log 21). -/
def State.parseMgmt (s : State) (u : InUse) : State :=
  match s.mgmt.collector.run u.rest with
  | (.more c, rest) =>
    ((s.setMgmtRest u rest).modMgmt fun m => { m with collector := c }).finishMgmtSegment
  | (.complete c, rest) =>
    (s.setMgmtRest u rest).modMgmt fun m =>
      { m with unit := .executing (.ready c.command), collector := { c with command := CommandRecord.empty } }
  | (.faulted k r n, _) => s.structuralFault k r n

/-- MGMT_PARSE_BYTES (R143). -/
def execMgmtParseBytes (s : State) : Host.Outcome State Fault Refusal :=
  match s.mgmt.unit, (s.rxOf s.straps.mgmtSel).inUse with
  | .collecting, some u => .next (s.parseMgmt u)
  | .collecting, none | .idle, _ | .responding, _ | .executing _, _ => .next s

/-- A segment that starts a management message is put in use (R142). -/
def State.openMgmtMessage (s : State) (g : Segment) (gs : List Segment) : State :=
  (s.modRx s.straps.mgmtSel fun r => { r with ingress := gs, inUse := some { rest := g.payload, eom := g.eom } }).modMgmt
    fun m => { m.loadStall with unit := .collecting, messageOpen := true, collector := Collector.empty }

/-- A segment taken in IDLE (R142). -/
def State.takeIdle (s : State) (g : Segment) (gs : List Segment) : State :=
  if g.som && !g.abort then s.openMgmtMessage g gs
  else s.modRx s.straps.mgmtSel fun r => { r with ingress := gs }

/-- A segment taken in COLLECTING loads the stall timer whatever its flags (R32, log 41); its marks and flags follow in the
order of R142. One that faults at its flags is kept and taken in IDLE (R142, R144). -/
def State.takeCollecting (s : State) (g : Segment) (gs : List Segment) : State :=
  let t := s.modMgmt MgmtUnit.loadStall
  if g.seqBreak then t.structuralFault .gap .none s.mgmt.collector.scopes.length
  else if g.abort then (t.modRx s.straps.mgmtSel fun r => { r with ingress := gs }).closeMgmtMessage
  else if g.som then t.structuralFault .ragged .none s.mgmt.collector.scopes.length
  else t.modRx s.straps.mgmtSel fun r => { r with ingress := gs, inUse := some { rest := g.payload, eom := g.eom } }

/-- MGMT_TAKE_SEGMENT (R142). -/
def execMgmtTakeSegment (s : State) : Host.Outcome State Fault Refusal :=
  match (s.rxOf s.straps.mgmtSel).inUse, (s.rxOf s.straps.mgmtSel).ingress with
  | none, g :: gs =>
    match s.mgmt.unit with
    | .idle => .next (s.takeIdle g gs)
    | .collecting => .next (s.takeCollecting g gs)
    | .executing _ | .responding => .next s
  | none, [] | some _, _ => .next s

end Sys2Proof.Machine
end

