-- ==== Sys2Proof/Machine/Engine.lean ====
section
/-! DEFINITION. The Record Engine's steps (03_the_record_engine.md): taking a segment's flags, completing a header, payload
runs, closes, pending pushes, and the end of a message. Each command of the table is one step, for the channel the engine
serves; a step of another kind than the one due leaves the state as it is (log 1). -/

namespace Sys2Proof.Machine

/-- The engine begins a step for a channel; the pointer moves when that begins a turn (R35, R37). -/
def State.beginStep (s : State) (c : ChannelNo) : State :=
  match s.turnGoesOn with
  | some _ => s
  | none => { s with turn := some c, pointer := c }

/-- Carries out an engine step if it is the one due for the channel served. -/
def State.engineDo (s : State) (k : EngineStep) (f : State → ChannelNo → State) : State :=
  match s.servedFor k with
  | none => s
  | some c => f (s.beginStep c) c

/-- A step is not taken for want of egress room: egress-blocked is set and the turn ends (R63). -/
def State.block (s : State) (c : ChannelNo) : State :=
  (s.modCh c fun ch => { ch with egressBlocked := true }).endTurn

/-! ### The end of a segment and of a message -/

/-- The clean end of a message at EOM (R65); the segment is used up and the turn ends. -/
def State.endMessage (s : State) (c : ChannelNo) : State :=
  let ch := s.ch c
  ((((s.modTx c fun t => if ch.outputStarted then t.closeMessage else t).modRx c fun r => { r with inUse := none }).modCh c
    fun ch => { ch with
      stats := { ch.stats with completed := satAdd count16Max ch.stats.completed 1 }
      bound := none
      state := .await }).releaseBound ch.bound).endTurn

/-- The segment in use is used up without EOM: its slot frees, the turn ends, and pending bytes are flushed when no
further segment waits (R40, R64). -/
def State.useUp (s : State) (c : ChannelNo) : State :=
  ((s.modRx c fun r => { r with inUse := none }).modTx c fun t =>
    if (s.rxOf c).ingress.isEmpty then t.flush else t).endTurn

/-- A step's state with none of its output handed and no scope pushed by it (R67): the channel's assembler, output-started and
stack height are those the step found. The counts it made stand (R60), and so do the scopes it closed (log 42). -/
def State.withhold (before after : State) (c : ChannelNo) : State :=
  (after.setTx c (before.txOf c)).modCh c fun ch =>
    { ch with
      outputStarted := (before.ch c).outputStarted
      resident := ch.resident.take (before.ch c).resident.length }

/-- What follows a step that took the channel from `before` to `after` (R40, R65): when the last byte of the segment in use has
been taken and no close is owed, its EOM is considered, or the segment is used up. The EOM comes after the whole cascade of
closes, against one sentence of the worked encoding (log 44). Where the EOM faults RAGGED, the step's own output and push are
not made (R67). -/
def State.finishStep (before after : State) (c : ChannelNo) : State :=
  match (after.rxOf c).inUse with
  | none => after
  | some u =>
    if !u.rest.isEmpty || (after.ch c).owedClose then after
    else if !u.eom then after.useUp c
    else if (after.ch c).cleanEnd then after.endMessage c
    else (before.withhold after c).engineFault c .ragged .none

/-! ### Taking a segment -/

/-- The changes a SOM makes to the channel record (R19). -/
def Channel.startMessage (ch : Channel) (bank : BankName) : Channel :=
  { ch.loadStall with
    bound := some { bank := bank, set := ch.config.policySet }
    ordinal := ch.ordinal + 1
    outputStarted := false
    degradedThisMessage := false
    outputDepth := 0
    resident := []
    spilled := 0
    parse := .header []
    state := .inMessage }

/-- A segment with SOM and without ABORT, taken in AWAIT, starts a message and is put in use (R19, R39). -/
def State.startMessage (s : State) (c : ChannelNo) (g : Segment) : State :=
  (((s.modPolicy fun p => p.bind p.active).modCh c fun ch => ch.startMessage s.policy.active).modTx c
    fun t => { t with segmentSent := false }).modRx c
      fun r => { r with inUse := some { rest := g.payload, eom := g.eom } }

/-- A channel in AWAIT takes its oldest segment (R18). -/
def State.awaitTake (s : State) (c : ChannelNo) : State :=
  match (s.rxOf c).ingress with
  | [] => s
  | g :: gs =>
    let t := s.modRx c fun r => { r with ingress := gs }
    if g.abort || !g.som then t.endTurn else t.finishStep (t.startMessage c g) c

/-- An upstream ABORT taken in an open message (R26, R66). -/
def State.upstreamAbort (s : State) (c : ChannelNo) : State :=
  ((s.modCh c fun ch => { ch with
    stats := { ch.stats with aborted := satAdd count16Max ch.stats.aborted 1 } }).unwind c true .await).endTurn

/-- A channel in IN_MESSAGE takes its oldest segment, which loads the stall timer whatever its flags (R30, log 41), and
considers its marks and flags in the order of R39. -/
def State.takeFlags (s : State) (c : ChannelNo) : State :=
  match (s.rxOf c).ingress with
  | [] => s
  | g :: gs =>
    let t := s.modCh c Channel.loadStall
    if g.seqBreak then t.engineFault c .gap .none
    else if g.abort then (t.modRx c fun r => { r with ingress := gs }).upstreamAbort c
    else if g.som then t.engineFault c .ragged .none
    else t.finishStep
      (t.modRx c fun r => { r with ingress := gs, inUse := some { rest := g.payload, eom := g.eom } }) c

/-! ### Accounting and degrading -/

/-- Accounts a child of definite size to the innermost scope (R54). -/
def State.accountChild (s : State) (c : ChannelNo) (n : Nat) : State :=
  s.modCh c fun ch => ch.modInnermost fun e => e.account n

/-- The statistic and the notice of a degrade (R74 steps 1 and 2). -/
def State.recordDegrade (s : State) (c : ChannelNo) (type : RecType) (k : FaultKind) : State :=
  let t := s.modCh c fun ch => { ch with
    stats := { ch.stats with degrades := satAdd count16Max ch.stats.degrades 1 }, degradedThisMessage := true }
  if (s.ch c).degradedThisMessage then t else t.queueNotice (.degraded c (s.ch c).ordinal type k)

/-- The header a degraded container is emitted with: remapped, with its original form and length (R50). -/
def PendingPush.degradedHeader (p : PendingPush) : Header :=
  Header.make .container (match p.emit with
    | some h => h.type
    | none => p.entry.type) (BitVec.ofNat 16 p.entry.mode.remaining)

/-- A container carried out as PASS because its FILTER scope cannot open (R50, R74). -/
def State.degrade (s : State) (c : ChannelNo) (p : PendingPush) (k : FaultKind) : State :=
  let n := p.entry.mode.remaining
  s.finishStep ((((s.hand c p.degradedHeader.toBytes).recordDegrade c p.entry.type k).accountChild c (4 + n)).modCh c
    fun ch => { ch with parse := .payload n 0, pendingPush := none }) c

/-! ### Opening a scope (R48, R73) -/

/-- Pushes an entry as the new innermost scope and emits its header; a FILTER scope raises the output depth (R48, R49). -/
def State.push (s : State) (c : ChannelNo) (p : PendingPush) : State :=
  s.finishStep ((s.emitHeader c p.emit).modCh c fun ch => { ch with
    resident := ch.resident ++ [p.entry]
    outputDepth := if p.entry.disposition == .filter then ch.outputDepth + 1 else ch.outputDepth
    pendingPush := none
    parse := .header [] }) c

/-- Raises a spill job of half the window and waits with a pending push (R76). The turn ends, and an EOM of the segment in use
waits for the step that pushes or degrades (log 45). -/
def State.raiseSpill (s : State) (c : ChannelNo) (p : PendingPush) : State :=
  ((s.raiseJob { channel := c, kind := .spill, count := (s.ch c).config.windowSize / 2, start := (s.ch c).spilled }).modCh c
    fun ch => { ch with state := .spillWait, pendingPush := some p }).endTurn

/-- The bytes a push emits have egress room; a DISCARD scope emits none (R63). -/
def State.pushHasRoom (s : State) (c : ChannelNo) (p : PendingPush) : Bool := p.emit.isNone || s.hasRoom c 4

/-- A scope is opened, made a pending push, degraded or faulted, as R73 decides. `undo` is the state a step that is not
taken leaves; `index` is the record's count index. -/
def State.openScope (undo s : State) (c : ChannelNo) (p : PendingPush) (index : Option (Fin 256)) (size : Nat) : State :=
  match pushCheck (s.ch c) s.spill.backing with
  | none =>
    if (s.ch c).windowFull then (s.count index 1 size).raiseSpill c p
    else if s.pushHasRoom c p then (s.count index 1 size).push c p else undo.block c
  | some k =>
    if !p.entry.degradable then (s.count index 1 size).engineFault c k .none
    else if s.hasRoom c 4 then (s.count index 1 size).degrade c p k else undo.block c

/-! ### Closing a scope (R55 to R59) -/

/-- A scope's close emits bytes (R56). -/
def ScopeEntry.closeEmits (e : ScopeEntry) : Bool := e.disposition != .discard

/-- The late-overrun test and deduction against the parent, and the accounting of the total to it (R57 steps 1 and 4):
the channel after both, or none for LATE_OVERRUN. -/
def Channel.accountClose (ch : Channel) (e : ScopeEntry) : Option Channel :=
  match ch.innermost with
  | none => some ch
  | some p =>
    match if e.mode.isIndefinite then p.mode.deductTotal e.total else some p.mode with
    | none => none
    | some m => some (ch.modInnermost fun q => { q.account e.total with mode := m })

/-- The count of a close: the total of an indefinite scope with L set (R57 step 3, R61). -/
def State.countClose (s : State) (c : ChannelNo) (e : ScopeEntry) : State :=
  if e.mode.isIndefinite && e.looked then s.count (s.lookupFor c e.type).countIndex 0 e.total else s

/-- The emission of a close (R57 step 2). -/
def State.emitClose (s : State) (c : ChannelNo) (e : ScopeEntry) : State :=
  match e.disposition with
  | .filter => (s.hand c endRecord).modCh c fun ch => { ch with outputDepth := ch.outputDepth - 1 }
  | .verbatim => s.hand c endRecord
  | .discard => s

/-- Completes the close of a popped scope, its parent now being innermost or the depth 0 (R57). -/
def State.finishClose (s : State) (c : ChannelNo) (e : ScopeEntry) : State :=
  match (s.ch c).accountClose e with
  | none => s.engineFault c .malformed .lateOverrun
  | some ch =>
    s.finishStep (((s.setCh c { ch with parse := .header [] }).emitClose c e).countClose c e) c

/-- Raises a fill of half the window for the parent of a popped scope, or faults where none may be raised (R80, R81). -/
def State.raiseFill (s : State) (c : ChannelNo) (e : ScopeEntry) : State :=
  if fillAllowed (s.ch c) s.spill.backing then
    let k := (s.ch c).config.windowSize / 2
    ((s.raiseJob { channel := c, kind := .fill, count := k, start := (s.ch c).spilled - k }).modCh c
      fun ch => { ch with state := .fillWait, parse := .closePending e }).endTurn
  else s.engineFault c .noBacking .none

/-- Pops the innermost scope and completes its close, or raises a fill when the pop empties the window over spilled scopes
(R56). `undo` is the state a close that is not begun leaves. -/
def State.closeInnermost (undo s : State) (c : ChannelNo) : State :=
  match (s.ch c).innermost with
  | none => s
  | some e =>
    let t := s.modCh c fun ch => { ch with resident := ch.resident.dropLast, parse := .header [] }
    if (t.ch c).resident.isEmpty && 0 < (t.ch c).spilled then t.raiseFill c e
    else if e.closeEmits && !s.hasRoom c 4 then undo.block c
    else t.finishClose c e

/-! ### Completing a header (R41 to R52) -/

/-- What a record's handling asks for: a record carried or skipped in bulk, with the header to emit, the count to copy and
the count to skip; or a scope to open, with the header to emit with it. -/
inductive Handling where
  | bulk (emit : Option Header) (copy skip : Nat)
  | scope (disposition : Disposition) (emit : Option Header)
deriving DecidableEq, Repr

/-- PASS carries a record whole (R44): an indefinite container as a VERBATIM scope, under the power-on policy too (log 46). -/
def passHandling (h : Header) (type : RecType) : Handling :=
  let emit := some (Header.make h.form type h.length)
  if h.isIndefinite then .scope .verbatim emit else .bulk emit h.length.toNat 0

/-- The handling an action gives a record (Figure 3-1, R43 to R47); `type` is the type remapped. -/
def actionHandling (h : Header) (type : RecType) : Action → Handling
  | .pass => passHandling h type
  | .descend =>
    if h.form == .container && h.length != 0 then
      .scope .filter (some (Header.make .container type indefiniteLength))
    else passHandling h type
  | .drop => if h.isIndefinite then .scope .discard none else .bulk none 0 h.length.toNat
  | .truncate limit =>
    if h.form == .leaf then
      let n := min h.length.toNat limit
      .bulk (some (Header.make .leaf type (BitVec.ofNat 16 n))) n (h.length.toNat - n)
    else passHandling h type

/-- The handling of a record inside a VERBATIM scope (R51). -/
def verbatimHandling (h : Header) : Handling := passHandling h h.type

/-- The handling of a record inside a DISCARD scope (R52). -/
def discardHandling (h : Header) : Handling :=
  if h.isIndefinite then .scope .discard none else .bulk none 0 h.length.toNat

/-- The mode of a scope opened for a header (R48). -/
def Header.scopeMode (h : Header) : ScopeMode := if h.isIndefinite then .indefinite else .definite h.length.toNat

/-- The byte count a header request carries (R60). -/
def Header.countedSize (h : Header) : Nat := if h.isIndefinite then 0 else h.size

/-- Applies a record's handling (R41 step 4). `looked` is the flag L; `index` is the count index of the record's hit. -/
def State.handle (undo s : State) (c : ChannelNo) (h : Header) (x : Handling) (looked : Bool)
    (index : Option (Fin 256)) : State :=
  match x with
  | .bulk emit copy skip =>
    if emit.isSome && !s.hasRoom c 4 then undo.block c
    else
      s.finishStep ((((s.count index 1 h.countedSize).emitHeader c emit).accountChild c h.size).modCh c
        fun ch => { ch with parse := .payload copy skip }) c
  | .scope d emit =>
    undo.openScope s c
      { entry := { type := h.type, disposition := d, mode := h.scopeMode, consumed := 0, looked := looked }
        emit := emit, refused := false } index h.countedSize

/-- Looks a record up and applies its action (R42, R43). -/
def State.judge (undo s : State) (c : ChannelNo) (h : Header) : State :=
  let v := s.lookupFor c h.type
  undo.handle s c h (actionHandling h (v.remap.getD h.type) v.action) true v.countIndex

/-- The disposition step (R41 step 4). -/
def State.dispose (undo s : State) (c : ChannelNo) (h : Header) : State :=
  match (s.ch c).innermost with
  | none => undo.judge s c h
  | some e =>
    match e.disposition with
    | .filter => undo.judge s c h
    | .verbatim => undo.handle s c h (verbatimHandling h) false none
    | .discard => undo.handle s c h (discardHandling h) false none

/-- An End record that passes the tests of R5: stray, or it closes the innermost scope (R6, R41 step 2). -/
def State.takeEnd (undo s : State) (c : ChannelNo) : State :=
  match (s.ch c).innermost with
  | none => s.engineFault c .malformed .strayEnd
  | some e =>
    if e.mode.isIndefinite then undo.closeInnermost s c else s.engineFault c .malformed .strayEnd

/-- The test and deduction against a definite parent (R41 step 3): the state after it, or none for OVERRUN. -/
def State.deductParent (s : State) (c : ChannelNo) (h : Header) : Option State :=
  match (s.ch c).innermost with
  | none => some s
  | some e =>
    match e.mode.deductChild h with
    | none => none
    | some m => some (s.modCh c fun ch => ch.modInnermost fun q => { q with mode := m })

/-- A header whose fourth byte is taken, in the order of R41. -/
def State.takeHeader (undo s : State) (c : ChannelNo) (h : Header) : State :=
  match headerFault h with
  | some r => s.engineFault c .malformed r
  | none =>
    if h.isEnd then undo.takeEnd s c
    else match s.deductParent c h with
      | none => s.engineFault c .malformed .overrun
      | some t => undo.dispose t c h

/-- The segment in use with other bytes left. -/
def State.setRest (s : State) (c : ChannelNo) (u : InUse) (rest : List Byte) : State :=
  s.modRx c fun r => { r with inUse := some { u with rest := rest } }

def State.setParse (s : State) (c : ChannelNo) (p : ParsePos) : State := s.modCh c fun ch => { ch with parse := p }

/-- Takes header bytes of the segment in use. Up to three are collected; with the fourth the header completes, and a step
not taken leaves the fourth byte untaken (R1, R41, log 6). -/
def State.headerStep (s : State) (c : ChannelNo) : State :=
  match (s.rxOf c).inUse, (s.ch c).parse with
  | some u, .header got =>
    let got3 := got ++ u.rest.take (3 - got.length)
    let left := u.rest.drop (3 - got.length)
    match left with
    | [] => s.finishStep ((s.setRest c u []).setParse c (.header got3)) c
    | b :: rest =>
      match Header.ofList (got3 ++ [b]) with
      | none => s
      | some h =>
        ((s.setRest c u left).setParse c (.header got3)).takeHeader ((s.setRest c u rest).setParse c (.header [])) c h
  | some _, .copy _ _ | some _, .skip _ | some _, .closePending _ | none, _ => s

/-! ### Payload runs (R53) -/

/-- What a COPY run leaves: the assembler, whether output has started, the count still to copy, and the bytes not taken. -/
structure CopyRun where
  tx : TxChannel
  started : Bool
  count : Nat
  rest : List Byte
deriving DecidableEq, Repr

/-- A COPY run takes bytes one at a time while the count lasts and each has egress room (R53, R63). -/
def copyRun (t : TxChannel) (started : Bool) : (count : Nat) → List Byte → CopyRun
  | 0, bs => { tx := t, started := started, count := 0, rest := bs }
  | n + 1, [] => { tx := t, started := started, count := n + 1, rest := [] }
  | n + 1, b :: bs =>
    if t.room started 1 then copyRun (t.hand [b]) true n bs
    else { tx := t, started := started, count := n + 1, rest := b :: bs }

/-- Takes the payload bytes of the segment in use that lie within the count (R53). A COPY run that stops for want of egress
room keeps its counts, and the turn ends (R63, log 7). -/
def State.payloadStep (s : State) (c : ChannelNo) : State :=
  match (s.rxOf c).inUse with
  | none => s
  | some u =>
    match (s.ch c).parse with
    | .copy n skip =>
      let run := copyRun (s.txOf c) (s.ch c).outputStarted n u.rest
      let t := (((s.setTx c run.tx).setRest c u run.rest).setParse c (.payload run.count skip)).modCh c
        fun ch => { ch with outputStarted := run.started }
      if 0 < run.count && !run.rest.isEmpty then t.block c else s.finishStep t c
    | .skip n =>
      s.finishStep ((s.setRest c u (u.rest.drop n)).setParse c (.payload 0 (n - u.rest.length))) c
    | .header _ | .closePending _ => s

/-! ### The other steps -/

/-- Begins the close of a definite scope owed it (R55, R56). -/
def State.closeStep (s : State) (c : ChannelNo) : State := s.closeInnermost s c

/-- Completes a close from CLOSE-PENDING: the late-overrun test, then egress room, then the completion (R57, R59, log 34). -/
def State.resumeClose (s : State) (c : ChannelNo) : State :=
  match (s.ch c).parse with
  | .closePending e =>
    if ((s.ch c).accountClose e).isSome && e.closeEmits && !s.hasRoom c 4 then s.block c else s.finishClose c e
  | .header _ | .copy _ _ | .skip _ => s

/-- Carries out a pending push after its spill completed (R49). -/
def State.pushStep (s : State) (c : ChannelNo) : State :=
  match (s.ch c).pendingPush with
  | none => s
  | some p => if s.pushHasRoom c p then s.push c p else s.block c

/-- Degrades a pending push whose spill was refused (R78, R176). -/
def State.degradeStep (s : State) (c : ChannelNo) : State :=
  match (s.ch c).pendingPush with
  | none => s
  | some p => if s.hasRoom c 4 then s.degrade c p .noBacking else s.block c

/-! ### The commands -/

/-- AWAIT_TAKE_SEGMENT (R18). -/
def execAwaitTakeSegment (s : State) : Host.Outcome State Fault Refusal := .next (s.engineDo .awaitTake State.awaitTake)

/-- TAKE_SEGMENT_FLAGS (R39). -/
def execTakeSegmentFlags (s : State) : Host.Outcome State Fault Refusal := .next (s.engineDo .takeFlags State.takeFlags)

/-- COMPLETE_HEADER (R41). -/
def execCompleteHeader (s : State) : Host.Outcome State Fault Refusal :=
  .next (s.engineDo .completeHeader State.headerStep)

/-- TAKE_PAYLOAD_RUN (R53). -/
def execTakePayloadRun (s : State) : Host.Outcome State Fault Refusal :=
  .next (s.engineDo .payloadRun State.payloadStep)

/-- BEGIN_CLOSE (R56). -/
def execBeginClose (s : State) : Host.Outcome State Fault Refusal := .next (s.engineDo .beginClose State.closeStep)

/-- COMPLETE_CLOSE (R57). -/
def execCompleteClose (s : State) : Host.Outcome State Fault Refusal :=
  .next (s.engineDo .completeClose State.resumeClose)

/-- CARRY_OUT_PENDING_PUSH (R49). -/
def execCarryOutPendingPush (s : State) : Host.Outcome State Fault Refusal :=
  .next (s.engineDo .carryOutPush State.pushStep)

/-- DEGRADE_PENDING_PUSH (R78). -/
def execDegradePendingPush (s : State) : Host.Outcome State Fault Refusal :=
  .next (s.engineDo .degradePush State.degradeStep)

end Sys2Proof.Machine
end

