-- ==== Sys2Proof/Machine/Link.lean ====
section
/-! DEFINITION. The segment link (08_the_segment_link.md): link down and up on both ports, segments and credit words
received, credit words granted, the Downstream lane and the return path. -/

namespace Sys2Proof.Machine

/-! ### Link down and link up (R33, R138, R139) -/

/-- A channel with a message open faults LINK (R33). -/
def State.faultLink (sendAbort : Bool) (who : Channel → Bool) (s : State) (c : ChannelNo) : State :=
  if s.isData c && (s.ch c).state.messageOpen && who (s.ch c) then s.fault c .link .none sendAbort else s

/-- The channels that fault at a link event, in ascending order (R33). -/
def State.faultLinks (s : State) (sendAbort : Bool) (who : Channel → Bool) : State :=
  allChannels.foldl (State.faultLink sendAbort who) s

/-- The Management Unit at Upstream link down (R138, R141): the message-open flag is cleared; a unit that was COLLECTING
drops the partial command; a response being sent waits to be sent again; a notice being sent is lost. -/
def MgmtUnit.upstreamDown (m : MgmtUnit) : MgmtUnit :=
  let lostOne := match m.returnMsg with
    | some { kind := .notice _, rest := _ } => true
    | some { kind := .response, rest := _ } | none => false
  { m with
    messageOpen := false
    unit := if m.unit == .collecting then .idle else m.unit
    collector := Collector.empty
    credits := 0
    returnMsg := none
    returnUnit := none
    lost := if lostOne then satAdd 255 m.lost 1 else m.lost }

/-- Upstream link down (R33, R138): credit, ingress buffers, channel faults, then the Management Unit. -/
def State.upstreamDown (s : State) : State :=
  let t := { s with upPort := .down }.mapRx fun _ r => { r with credit := 0, ingress := [] }
  (((t.faultLinks true fun _ => true).modRx s.straps.mgmtSel fun r => { r with inUse := none }).modMgmt
    MgmtUnit.upstreamDown).settleTurn

/-- UPSTREAM_LINK_DOWN (R138). -/
def execUpstreamLinkDown (s : State) : Host.Outcome State Fault Refusal :=
  match s.upPort with
  | .down => .next s
  | .up => .next s.upstreamDown

/-- Upstream link up (R33, R138): every channel is unsynchronised and the management egress sequence is 0. -/
def State.upstreamUp (s : State) : State :=
  ({ s with upPort := .up }.mapRx fun _ r => { r with unsync := true }).modMgmt fun m => { m with seq := 0 }

/-- UPSTREAM_LINK_UP (R138). -/
def execUpstreamLinkUp (s : State) : Host.Outcome State Fault Refusal :=
  match s.upPort with
  | .up => .next s
  | .down => .next s.upstreamUp

/-- Downstream link down (R33, R139): egress segments are discarded and their slots free, credits are 0, and messages
whose output had started fault LINK without an ABORT. -/
def State.downstreamDown (s : State) : State :=
  let t := ({ s with dnPort := .down, dnSending := none }.mapCh fun c ch =>
    if s.isData c && !(s.txOf c).egress.isEmpty then { ch with egressBlocked := false } else ch).mapTx
      fun _ x => { x with egress := [], credits := 0 }
  (t.faultLinks false Channel.outputStarted).settleTurn

/-- DOWNSTREAM_LINK_DOWN (R139). -/
def execDownstreamLinkDown (s : State) : Host.Outcome State Fault Refusal :=
  match s.dnPort with
  | .down => .next s
  | .up => .next s.downstreamDown

/-- DOWNSTREAM_LINK_UP (R139): every data channel's egress sequence becomes 0. -/
def execDownstreamLinkUp (s : State) : Host.Outcome State Fault Refusal :=
  match s.dnPort with
  | .up => .next s
  | .down => .next ({ s with dnPort := .up }.mapTx fun _ x => { x with seq := 0 })

/-! ### Receiving segments and credit words (R128 to R133) -/

/-- Counts an invalid unit (R129). -/
def LinkErrors.countError (e : LinkErrors) : UnitError → LinkErrors
  | .crc => { e with crc := satAdd count16Max e.crc 1 }
  | .badHeader => { e with badHeader := satAdd count16Max e.badHeader 1 }

/-- The sequence check, and the placing in the ingress buffer with the mark it gives (R130 steps 3 and 4, R131). -/
def RxChannel.accept (r : RxChannel) (g : ReceivedSegment) : RxChannel :=
  { r with
    expected := g.seq + 1
    unsync := false
    ingress := r.ingress ++
      [{ som := g.som, eom := g.eom, abort := g.abort, payload := g.payload,
         seqBreak := !r.unsync && g.seq != r.expected }] }

/-- A valid segment is taken, in the order of R130. -/
def State.takeSegment (s : State) (g : ReceivedSegment) : State :=
  if (s.rxOf g.channel).credit == 0 then
    s.modErrors fun e => { e with overrun := satAdd count16Max e.overrun 1 }
  else
    let t := s.modRx g.channel fun r => { r with credit := r.credit - 1 }
    if s.mayReceive g.channel then t.modRx g.channel fun r => r.accept g else t

/-- SEGMENT_RECEIVED (R128, R130). A DOWN lane delivers no units (R138). -/
def execSegmentReceived (unit : List Byte) (s : State) : Host.Outcome State Fault Refusal :=
  match s.upPort with
  | .down => .next s
  | .up =>
    match decodeSegment unit with
    | .error e => .next (s.modErrors fun x => x.countError e)
    | .ok g => .next (s.takeSegment g)

/-- DOWNSTREAM_SEGMENT_DISCARD (R126): the unit is discarded without being examined or counted. -/
def execDownstreamSegmentDiscard (_unit : List Byte) (s : State) : Host.Outcome State Fault Refusal := .next s

/-- The state of the port a credit word arrives on. -/
def State.portState (s : State) : Port → PortState
  | .upstream => s.upPort
  | .downstream => s.dnPort

/-- The channels a port takes credit words for (R133): the management channel Upstream, data channels Downstream. -/
def State.creditChannel (s : State) : Port → ChannelNo → Bool
  | .upstream, c => !s.isData c
  | .downstream, c => s.isData c

/-- An accepted credit word raises the credits; the excess is discarded (R133). -/
def State.takeCredit (s : State) (port : Port) (c : ChannelNo) (count : Nat) : State :=
  match port with
  | .upstream => s.modMgmt fun m => { m with credits := satAdd 4 m.credits count }
  | .downstream => s.modTx c fun t => { t with credits := satAdd 8 t.credits count }

/-- CREDIT_WORD_RECEIVED (R133). -/
def execCreditWordReceived (port : Port) (unit : List Byte) (s : State) : Host.Outcome State Fault Refusal :=
  match s.portState port with
  | .down => .next s
  | .up =>
    match decodeCredit (s.creditChannel port) unit with
    | .error e => .next (s.modErrors fun x => x.countError e)
    | .ok (c, count) => .next (s.takeCredit port c count)

/-- A credit word is sent for a channel, its count being the grant due (R132). -/
def State.grant (s : State) (c : ChannelNo) : State :=
  (s.modMgmt fun m => { m with returnUnit := some (.creditWord (encodeCredit c (s.grantDue c))) }).modRx c
    fun r => { r with credit := r.credit + s.grantDue c }

/-- CREDIT_WORD_GRANT (R132): the lowest-numbered channel with a grant due, when the lane is free. -/
def execCreditWordGrant (s : State) : Host.Outcome State Fault Refusal :=
  if s.returnLaneFree then
    match s.firstGrant with
    | none => .next s
    | some c => .next (s.grant c)
  else .next s

/-! ### The Downstream transmit lane (R136) -/

/-- A data channel with a head segment and a credit (R136). -/
def State.canSend (s : State) (c : ChannelNo) : Bool :=
  s.isData c && !(s.txOf c).egress.isEmpty && 0 < (s.txOf c).credits

/-- The channel the Downstream arbiter picks (R136). -/
def State.sendChoice (s : State) : Option ChannelNo :=
  if s.dnPort == .up && s.dnSending.isNone then (searchAfter s.dnPointer).find? s.canSend else none

/-- The head segment of a channel begins to be sent: its sequence and CRC are written, and the credit falls (R136). The channel
counts as served last from here on, a segment cut by a link down included (log 43). -/
def State.sendHead (s : State) (c : ChannelNo) : State :=
  let t := s.txOf c
  match t.egress with
  | [] => s
  | g :: _ =>
    { s.setTx c { t with credits := t.credits - 1, seq := t.seq + 1 } with
      dnPointer := c
      dnSending := some { channel := c, bytes := encodeSegment c t.seq g.som g.eom g.abort g.payload } }

/-- DOWNSTREAM_SEGMENT_SEND (R136). -/
def execDownstreamSegmentSend (s : State) : Host.Outcome State Fault Refusal :=
  match s.sendChoice with
  | none => .next s
  | some c => .next (s.sendHead c)

/-- The slot of a sent segment frees; an ordinary slot that frees closes a flush-pending segment (R135, R136). -/
def TxChannel.freeHead (t : TxChannel) : TxChannel :=
  match t.egress with
  | [] => t
  | g :: gs =>
    let u := { t with egress := gs }
    if !g.terminal && u.flushPending && !u.pendingBytes.isEmpty then u.closePending else u

/-- The last byte of a segment has been sent (R16, R136). -/
def State.sentHead (s : State) (c : ChannelNo) : State :=
  { (s.modTx c TxChannel.freeHead).modCh c fun ch => { ch with egressBlocked := false } with dnSending := none }

/-- DOWNSTREAM_SEGMENT_SENT (R136). -/
def execDownstreamSegmentSent (s : State) : Host.Outcome State Fault Refusal :=
  match s.dnSending with
  | none => .next s
  | some d => .next (s.sentHead d.channel)

/-! ### The return path (R137, R162, R163) -/

/-- The most payload bytes a segment holds (R127). -/
def segmentMax : Nat := 64

/-- The next segment of a return-path message is put on the lane (R137): one credit is spent, the segment is numbered, and
EOM goes with the last bytes. -/
def State.sendReturn (s : State) (som : Bool) (kind : ReturnKind) (bytes : List Byte) : State :=
  let rest := bytes.drop segmentMax
  s.modMgmt fun m =>
    { m with
      credits := m.credits - 1
      seq := m.seq + 1
      returnUnit := some (.segment
        (encodeSegment s.straps.mgmtSel m.seq som rest.isEmpty false (bytes.take segmentMax)))
      returnMsg := some { kind := kind, rest := rest } }

/-- The return path may take a segment: the lane is free, no grant is due and a credit is left (R132, R137). -/
def State.returnReady (s : State) : Bool := s.returnLaneFree && s.firstGrant.isNone && 0 < s.mgmt.credits

/-- Begins a message: the waiting response, or else the oldest notice, whose LOST is written now (R162, R163). -/
def State.beginReturn (s : State) : State :=
  match s.mgmt.unit, s.mgmt.response with
  | .responding, some bytes => s.sendReturn true .response bytes
  | _, _ =>
    match s.mgmt.notices with
    | [] => s
    | n :: ns =>
      (s.modMgmt fun m => { m with notices := ns }).sendReturn true (.notice s.mgmt.lost) (n.toBytes s.mgmt.lost)

/-- The return path begins a message if its lane can: with no message in progress, the first segment of the one begun is sent
(R137, R163, log 14). -/
def State.returnBegin (s : State) : State :=
  if s.mgmt.returnMsg.isNone && s.returnReady then s.beginReturn else s

/-- RETURN_MESSAGE_BEGIN (R163). -/
def execReturnMessageBegin (s : State) : Host.Outcome State Fault Refusal := .next s.returnBegin

/-- RETURN_SEGMENT_SEND (R137): the next segment of the message in progress. -/
def execReturnSegmentSend (s : State) : Host.Outcome State Fault Refusal :=
  match s.mgmt.returnMsg with
  | none => .next s
  | some m => if s.returnReady then .next (s.sendReturn false m.kind m.rest) else .next s

/-- The response has been sent whole: the unit leaves RESPONDING, and in COLLECTING the EOM that waited is considered
(R141, R142). -/
def State.responseSent (s : State) : State :=
  let t := s.modMgmt fun m =>
    { m with returnMsg := none, response := none, unit := if m.messageOpen then .collecting else .idle }
  if s.mgmt.messageOpen then t.finishMgmtSegment else t

/-- RESPONSE_SENT (R141): the last segment of the response has been sent. -/
def execResponseSent (s : State) : Host.Outcome State Fault Refusal :=
  match s.mgmt.returnMsg with
  | some { kind := .response, rest := [] } => .next s.responseSent
  | some { kind := .response, rest := _ :: _ } | some { kind := .notice _, rest := _ } | none => .next s

/-- NOTICE_SENT (R162): the lost count is lowered by the value the notice carried. -/
def execNoticeSent (s : State) : Host.Outcome State Fault Refusal :=
  match s.mgmt.returnMsg with
  | some { kind := .notice carried, rest := [] } =>
    .next (s.modMgmt fun m => { m with returnMsg := none, lost := m.lost - carried })
  | some { kind := .notice _, rest := _ :: _ } | some { kind := .response, rest := _ } | none => .next s

end Sys2Proof.Machine
end

