-- ==== Sys2Proof/Machine/Commands.lean ====
section
/-! DEFINITION. The management commands (R145 to R160), but for those of the Policy Store and RESTART. Each event carries
out the command record that the unit holds EXECUTING, if it is the event's command. -/

namespace Sys2Proof.Machine

/-! ### Checks (R145) -/

/-- The form check (R145 step 2). -/
def CommandRecord.badForm (r : CommandRecord) : Bool :=
  r.nested || !r.has Leaf.tag || !r.duplicates.isEmpty || r.wrongLength

/-- The arguments check (R145 step 3): `required` and `optional` are the arguments the command takes beyond TAG. -/
def CommandRecord.badArguments (r : CommandRecord) (required optional : List RecType) : Bool :=
  !r.foreign.isEmpty
    || r.args.any (fun a => !(Leaf.tag :: (required ++ optional)).contains a.type || !argInRange a.type (bytesNum a.value))
    || required.any (fun t => !r.has t)

/-- The checks of R145 after the command code: the completion code of the first that fails. -/
def CommandRecord.check (r : CommandRecord) (required optional : List RecType) : Option Completion :=
  if r.badForm then some .malformedCommand
  else if r.badArguments required optional then some .badArgument
  else none

/-- The codes of Figure 9-3: hex F01 to hex F0E. -/
def isCommandCode (t : RecType) : Bool := 0xF01 ≤ t && t ≤ 0xF0E

/-- The completed record waiting to be carried out. -/
def State.readyRecord (s : State) : Option CommandRecord :=
  match s.mgmt.unit with
  | .executing (.ready r) => some r
  | .executing (.countersRead ..) | .executing (.channelReset ..) | .executing (.backingRestore _)
  | .executing (.provisionClose _) | .idle | .collecting | .responding => none

/-- The completed record, if it is the command of this code. -/
def State.readyFor (s : State) (code : RecType) : Option CommandRecord :=
  match s.readyRecord with
  | some r => if r.isContainer && r.code == code then some r else none
  | none => none

/-- Carries out a command: the checks of R145, then the command's own rule. -/
def State.runCommand (s : State) (code : RecType) (required optional : List RecType)
    (body : State → CommandRecord → State) : Host.Outcome State Fault Refusal :=
  match s.readyFor code with
  | none => .next s
  | some r =>
    match r.check required optional with
    | some e => .next (s.answer r e [])
    | none => .next (body s r)

/-- The channel a command names. -/
def CommandRecord.channel (r : CommandRecord) : ChannelNo := Fin.ofNat 16 ((r.value Leaf.channel).getD 0)

/-- The value of a yes-or-no argument, absent meaning no. -/
def CommandRecord.flag (r : CommandRecord) (t : RecType) : Bool := (r.value t).getD 0 == 1

/-! ### UNKNOWN_COMMAND, IDENTIFY, STATUS -/

/-- The record is not a command: a leaf, or a container of another type (R145 step 1). -/
def CommandRecord.isUnknown (r : CommandRecord) : Bool := !r.isContainer || !isCommandCode r.code

/-- UNKNOWN_COMMAND (R145): answered with a response of type hex E00. -/
def execUnknownCommand (s : State) : Host.Outcome State Fault Refusal :=
  match s.readyRecord with
  | none => .next s
  | some r => if r.isUnknown then .next (s.respond 0xE00 r.tag .unknownCommand []) else .next s

/-- The leaves of IDENTIFY (R147). -/
def State.identifyLeaves (s : State) : List Byte :=
  numLeaf Leaf.vendor 2 0x3E51 ++ numLeaf Leaf.part 2 0x0416 ++ numLeaf Leaf.revision 1 1
    ++ leafBytes Leaf.straps
      (numBytes 1 s.straps.mgmtSel.val ++ [flagByte s.straps.spillFitted] ++ numBytes 1 s.straps.spillRate.val)
    ++ numLeaf Leaf.phase 1 s.mgmt.phase.code

/-- IDENTIFY (R147). -/
def execIdentify (s : State) : Host.Outcome State Fault Refusal :=
  s.runCommand Cmd.identify [] [] fun s r => s.answer r .ok s.identifyLeaves

/-- The LINK_ERRORS leaf. -/
def LinkErrors.leaf (e : LinkErrors) : List Byte :=
  leafBytes Leaf.linkErrors (numBytes 2 e.crc ++ numBytes 2 e.badHeader ++ numBytes 2 e.overrun)

/-- The leaves of STATUS (R148). -/
def State.statusLeaves (s : State) : List Byte :=
  numLeaf Leaf.phase 1 s.mgmt.phase.code ++ numLeaf Leaf.backing 1 s.spill.backing.code
    ++ numLeaf Leaf.failures 1 s.spill.failures ++ numLeaf Leaf.bank 1 s.policy.active.code
    ++ numLeaf Leaf.staging 1 s.policy.staging.code
    ++ leafBytes Leaf.refCounts (numBytes 1 s.policy.bankA.refs ++ numBytes 1 s.policy.bankB.refs)
    ++ leafBytes Leaf.links (numBytes 1 s.upPort.code ++ numBytes 1 s.dnPort.code)
    ++ s.linkErrors.leaf
    ++ leafBytes Leaf.notices (numBytes 1 s.mgmt.notices.length ++ numBytes 1 s.mgmt.lost)

/-- STATUS (R148). -/
def State.status (s : State) (r : CommandRecord) : State :=
  let t := s.answer r .ok s.statusLeaves
  if r.flag Leaf.clear then t.modErrors fun _ => { crc := 0, badHeader := 0, overrun := 0 } else t

/-- STATUS (R148). -/
def execStatus (s : State) : Host.Outcome State Fault Refusal :=
  s.runCommand Cmd.status [] [Leaf.clear] State.status

/-! ### CHANNEL SET, CHANNEL GET, CHANNEL RESET -/

/-- The configuration with every argument given written (R14). -/
def ChannelConfig.write (f : ChannelConfig) (r : CommandRecord) : ChannelConfig :=
  { enabled := match r.value Leaf.enabled with
      | some v => v == 1
      | none => f.enabled
    policySet := match r.value Leaf.policySet with
      | some v => Fin.ofNat 8 v
      | none => f.policySet
    windowSize := (r.value Leaf.windowSize).getD f.windowSize
    maxDepth := (r.value Leaf.maxDepth).getD f.maxDepth
    stallReload := (r.value Leaf.stallReload).getD f.stallReload }

/-- Empties a channel's ingress buffer of segments not yet taken (R15, R27). -/
def State.emptyIngress (s : State) (c : ChannelNo) : State := s.modRx c fun r => { r with ingress := [] }

/-- A channel is disabled (R15). -/
def State.disable (s : State) (c : ChannelNo) : State :=
  let t := s.emptyIngress c
  match (s.ch c).state with
  | .held | .await => t.modCh c fun ch => { ch with state := .disabled }
  | .inMessage | .spillWait | .fillWait => t.unwind c true .disabled
  | .drain => t.modCh c fun ch => { ch with drainExit := .disabled }
  | .disabled => t

/-- A channel is enabled (R15). -/
def State.enable (s : State) (c : ChannelNo) : State :=
  match (s.ch c).state with
  | .disabled =>
    match s.mgmt.phase with
    | .provisioning => s.modCh c fun ch => { ch with state := .held }
    | .operating =>
      (s.modCh c fun ch => { ch with state := .await }).modRx c fun r => { r with unsync := true }
  | .drain => s.modCh c fun ch => { ch with drainExit := .await }
  | .held | .await | .inMessage | .spillWait | .fillWait => s

/-- The effect of the enabled field's change (R15). -/
def State.applyEnabled (s : State) (c : ChannelNo) (before after : Bool) : State :=
  if before && !after then (s.disable c).settleTurn
  else if !before && after then s.enable c
  else s

/-- CHANNEL SET for a data channel: every argument given is written at once (R14, R149). -/
def State.setChannel (s : State) (c : ChannelNo) (r : CommandRecord) : State :=
  let before := (s.ch c).config
  (s.modCh c fun ch => { ch with config := before.write r }).applyEnabled c before.enabled (before.write r).enabled

/-- An argument other than STALL_RELOAD is given (R149 check 1). -/
def CommandRecord.setsData (r : CommandRecord) : Bool :=
  r.has Leaf.enabled || r.has Leaf.policySet || r.has Leaf.windowSize || r.has Leaf.maxDepth

/-- A locked argument is given (R149 check 2). -/
def CommandRecord.setsLocked (r : CommandRecord) : Bool :=
  r.has Leaf.windowSize || r.has Leaf.maxDepth || r.value Leaf.stallReload == some 0

/-- CHANNEL SET after the checks of R145 (R149). -/
def State.channelSet (s : State) (r : CommandRecord) : State :=
  if !s.isData r.channel && r.setsData then s.answer r .badArgument []
  else if s.mgmt.phase == .operating && r.setsLocked then s.answer r .locked []
  else if s.isData r.channel then
    let t := s.setChannel r.channel r
    t.answer r .ok (t.ch r.channel).stateLeaf
  else
    (s.modMgmt fun m => { m with stallReload := (r.value Leaf.stallReload).getD m.stallReload }).answer r .ok []

/-- CHANNEL SET (R149). -/
def execChannelSet (s : State) : Host.Outcome State Fault Refusal :=
  s.runCommand Cmd.channelSet [Leaf.channel]
    [Leaf.enabled, Leaf.policySet, Leaf.windowSize, Leaf.maxDepth, Leaf.stallReload] State.channelSet

/-- The leaves of CHANNEL GET (R150, R175). -/
def State.channelLeaves (s : State) (c : ChannelNo) : List Byte :=
  if s.isData c then
    (s.ch c).config.leaves ++ (s.ch c).liveLeaves (s.rxOf c).unsync ++ numLeaf Leaf.sequence 1 (s.rxOf c).expected.toNat
  else
    numLeaf Leaf.stallReload 2 s.mgmt.stallReload ++ numLeaf Leaf.stallTimer 2 s.mgmt.stallTimer
      ++ numLeaf Leaf.sequence 1 (s.rxOf c).expected.toNat

/-- CHANNEL GET (R150). -/
def execChannelGet (s : State) : Host.Outcome State Fault Refusal :=
  s.runCommand Cmd.channelGet [Leaf.channel] [] fun s r => s.answer r .ok (s.channelLeaves r.channel)

/-- The channel record after the statistics, the ordinal and the fault record are cleared (R27 step 3). -/
def Channel.clearRecord (ch : Channel) : Channel :=
  { ch with
    stats := { completed := 0, aborted := 0, faults := 0, degrades := 0 }
    ordinal := 0
    lastFaultKind := .none
    lastFaultReason := .none }

/-- CHANNEL RESET at the channel (R27): unwind, ingress, statistics, sequence. -/
def State.resetChannel (s : State) (c : ChannelNo) : State :=
  let t := if (s.ch c).state.messageOpen then s.unwind c true .await else s
  (((t.emptyIngress c).modCh c Channel.clearRecord).modRx c fun r => { r with unsync := true }).settleTurn

/-- CHANNEL RESET (R151): answered at once, or when the channel leaves DRAIN. -/
def State.channelReset (s : State) (r : CommandRecord) : State :=
  if !s.isData r.channel then s.answer r .badArgument []
  else
    let t := s.resetChannel r.channel
    if (t.ch r.channel).state == .drain then
      t.modMgmt fun m => { m with unit := .executing (.channelReset r.tag r.channel) }
    else t.answer r .ok (t.ch r.channel).stateLeaf

/-- CHANNEL RESET (R151). -/
def execChannelReset (s : State) : Host.Outcome State Fault Refusal :=
  s.runCommand Cmd.channelReset [Leaf.channel] [] State.channelReset

/-! ### COUNTERS READ and its pair reads (R122, R157) -/

/-- COUNTERS READ checks its range and begins (R157). -/
def State.countersRead (s : State) (r : CommandRecord) : State :=
  let first := (r.value Leaf.firstIndex).getD 0
  let n := (r.value Leaf.count).getD 0
  if 255 < first + n - 1 then s.answer r .badArgument []
  else s.modMgmt fun m => { m with unit := .executing (.countersRead r.tag first n (r.flag Leaf.clear) []) }

/-- COUNTERS READ (R157). -/
def execCountersRead (s : State) : Host.Outcome State Fault Refusal :=
  s.runCommand Cmd.countersRead [Leaf.firstIndex, Leaf.count] [Leaf.clear] State.countersRead

/-- One pair is copied into the response and, with clear, set to 0 in the same event; after the last pair the command is
answered OK (R122, R157). -/
def State.readPair (s : State) (tag : Option (List Byte)) (next left : Nat) (clear : Bool) (leaves : List Byte) : State :=
  let i : Fin 256 := Fin.ofNat 256 next
  let read := leaves ++ s.counters[i].leaf next
  let t := if clear then { s with counters := s.counters.set i { records := 0, bytes := 0 } } else s
  if left ≤ 1 then t.respond (responseType Cmd.countersRead) tag .ok read
  else t.modMgmt fun m => { m with unit := .executing (.countersRead tag (next + 1) (left - 1) clear read) }

/-- PAIR_READ (R122). -/
def execPairRead (s : State) : Host.Outcome State Fault Refusal :=
  match s.mgmt.unit with
  | .executing (.countersRead tag next left clear leaves) => .next (s.readPair tag next left clear leaves)
  | .executing (.ready _) | .executing (.channelReset ..) | .executing (.backingRestore _)
  | .executing (.provisionClose _) | .idle | .collecting | .responding => .next s

/-! ### BACKING RESTORE and PROVISION CLOSE -/

/-- Requests a probe and waits for its outcome (R97). -/
def State.requestProbe (s : State) (e : Executing) : State :=
  (s.modSpill fun p => { p with pendingProbe := true }).modMgmt fun m => { m with unit := .executing e }

/-- BACKING RESTORE after the checks of R145 (R158). -/
def State.backingRestore (s : State) (r : CommandRecord) : State :=
  if s.spill.backing == .lost then s.requestProbe (.backingRestore r.tag) else s.answer r .badState []

/-- BACKING RESTORE (R158). -/
def execBackingRestore (s : State) : Host.Outcome State Fault Refusal :=
  s.runCommand Cmd.backingRestore [] [] State.backingRestore

/-- The sum of the window sizes of the data channels among `cs` (R168). -/
def State.windowSum (s : State) (cs : List ChannelNo) : Nat :=
  (cs.map fun c => if s.isData c then (s.ch c).config.windowSize else 0).sum

/-- A channel's window (R69): it begins after the windows of the lower-numbered data channels. -/
def State.windowBase (s : State) (c : ChannelNo) : Option Nat :=
  if s.isData c && 0 < (s.ch c).config.windowSize then some (s.windowSum (allChannels.filter fun d => d < c)) else none

/-- The allocation (R69, R169). -/
def State.allocateWindows (s : State) : State := s.mapCh fun c ch => { ch with window := s.windowBase c }

/-- PROVISION CLOSE after the checks of R145 (R159, R168 to R170). -/
def State.provisionClose (s : State) (r : CommandRecord) : State :=
  if s.mgmt.phase == .operating then s.answer r .locked []
  else if 128 < s.windowSum allChannels then s.answer r .badArgument []
  else if s.spill.backing == .untested then s.allocateWindows.requestProbe (.provisionClose r.tag)
  else s.allocateWindows.openPart r.tag

/-- PROVISION CLOSE (R159). -/
def execProvisionClose (s : State) : Host.Outcome State Fault Refusal :=
  s.runCommand Cmd.provisionClose [] [] State.provisionClose

end Sys2Proof.Machine
end

