-- ==== Sys2Proof/Machine/Policy.lean ====
section
/-! DEFINITION. The Policy Store's commands and the end of its copy (06_policy_tables.md, R152 to R156). -/

namespace Sys2Proof.Machine

/-- The set and the type of a key argument. -/
def CommandRecord.setArg (r : CommandRecord) : Fin 8 := Fin.ofNat 8 ((r.value Leaf.set).getD 0)

def CommandRecord.typeArg (r : CommandRecord) : RecType := BitVec.ofNat 12 ((r.value Leaf.type).getD 0)

/-- The action of an entry: TRUNCATE with the limit given, any other without one; none where they do not agree (R109
step 1). -/
def CommandRecord.entryAction (r : CommandRecord) : Option Action :=
  match (r.value Leaf.action).getD 0, r.value Leaf.limit with
  | 0, none => some .pass
  | 1, none => some .descend
  | 2, none => some .drop
  | 3, some n => some (.truncate n)
  | _, _ => none

/-- The entry POLICY INSERT carries (R103). -/
def CommandRecord.entry (r : CommandRecord) (a : Action) : PolicyEntry :=
  { set := r.setArg
    type := r.typeArg
    action := a
    remap := (r.value Leaf.remap).map fun n => BitVec.ofNat 12 n
    countIndex := (r.value Leaf.countIndex).map fun n => Fin.ofNat 256 n }

/-- The entry placed at the position its key gives (R105, R109). -/
def Bank.insert (b : Bank) (e : PolicyEntry) : Bank :=
  let p := b.position e.set e.type
  { b with entries := b.entries.take p ++ e :: b.entries.drop p }

/-- The staging bank's contents. -/
def PolicyStore.staged (p : PolicyStore) : Bank := p.bank p.stagingBank

def PolicyStore.setStaged (p : PolicyStore) (b : Bank) : PolicyStore := p.setBank p.stagingBank b

/-- The capacity of a bank (R104). -/
def bankCapacity : Nat := 1024

/-- POSITION and ENTRY_COUNT of an edit's answer. -/
def editLeaves (position count : Nat) : List Byte := numLeaf Leaf.position 2 position ++ numLeaf Leaf.entryCount 2 count

/-- POLICY INSERT after the checks of R145, in the order of R109: limit, state, key, room. -/
def State.policyInsert (s : State) (r : CommandRecord) : State :=
  match r.entryAction with
  | none => s.answer r .badArgument []
  | some a =>
    let b := s.policy.staged
    if s.policy.staging != .ready then s.answer r .busy []
    else if (b.find r.setArg r.typeArg).isSome then s.answer r .exists_ []
    else if bankCapacity ≤ b.entries.length then s.answer r .full []
    else
      (s.modPolicy fun p => p.setStaged (b.insert (r.entry a))).answer r .ok
        (editLeaves (b.position r.setArg r.typeArg) (b.entries.length + 1))

/-- POLICY INSERT (R109, R152). -/
def execPolicyInsert (s : State) : Host.Outcome State Fault Refusal :=
  s.runCommand Cmd.policyInsert [Leaf.set, Leaf.type, Leaf.action] [Leaf.remap, Leaf.countIndex, Leaf.limit]
    State.policyInsert

/-- The entry of a key removed (R110). -/
def Bank.delete (b : Bank) (set : Fin 8) (type : RecType) : Bank :=
  { b with entries := b.entries.filter fun e => !e.hasKey set type }

/-- POLICY DELETE after the checks of R145 (R110): state, key. -/
def State.policyDelete (s : State) (r : CommandRecord) : State :=
  let b := s.policy.staged
  if s.policy.staging != .ready then s.answer r .busy []
  else if (b.find r.setArg r.typeArg).isNone then s.answer r .notFound []
  else
    (s.modPolicy fun p => p.setStaged (b.delete r.setArg r.typeArg)).answer r .ok
      (editLeaves (b.position r.setArg r.typeArg) (b.entries.length - 1))

/-- POLICY DELETE (R110, R153). -/
def execPolicyDelete (s : State) : Host.Outcome State Fault Refusal :=
  s.runCommand Cmd.policyDelete [Leaf.set, Leaf.type] [] State.policyDelete

/-- The default action an ACTION argument names; TRUNCATE names none (R111). -/
def CommandRecord.defaultAction (r : CommandRecord) : Option DefaultAction :=
  match (r.value Leaf.action).getD 0 with
  | 0 => some .pass
  | 1 => some .descend
  | 2 => some .drop
  | _ => none

/-- DEFAULT SET after the checks of R145 (R111). -/
def State.defaultSet (s : State) (r : CommandRecord) : State :=
  match r.defaultAction with
  | none => s.answer r .badArgument []
  | some a =>
    if s.policy.staging != .ready then s.answer r .busy []
    else
      (s.modPolicy fun p => p.setStaged { p.staged with defaults := p.staged.defaults.set r.setArg a }).answer r .ok []

/-- DEFAULT SET (R111, R154). -/
def execDefaultSet (s : State) : Host.Outcome State Fault Refusal :=
  s.runCommand Cmd.defaultSet [Leaf.set, Leaf.action] [] State.defaultSet

/-! ### POLICY READ (R112, R155) -/

/-- How POLICY READ names its entry. -/
inductive EntryName where
  | key (set : Fin 8) (type : RecType)
  | position (n : Nat)
deriving DecidableEq, Repr

/-- The entry named: by key or by position, exactly one of the two (R112, R155). -/
def CommandRecord.entryName (r : CommandRecord) : Option EntryName :=
  match r.has Leaf.set, r.has Leaf.type, r.value Leaf.position with
  | true, true, none => some (.key r.setArg r.typeArg)
  | false, false, some n => some (.position n)
  | _, _, _ => none

/-- The bank a role names as the command is executed (R112): 0 active, 1 staging. -/
def State.roleBank (s : State) (r : CommandRecord) : BankName :=
  if (r.value Leaf.role).getD 0 == 0 then s.policy.active else s.policy.stagingBank

/-- The entry found and its position. -/
def Bank.named (b : Bank) : EntryName → Option (PolicyEntry × Nat)
  | .key set type => (b.find set type).map fun e => (e, b.position set type)
  | .position n => (b.entries[n]?).map fun e => (e, n)

/-- DEFAULT of the key's set, when the entry was named by key (R155). -/
def Bank.defaultLeaf (b : Bank) : EntryName → List Byte
  | .key set _ => numLeaf Leaf.default 1 b.defaults[set].code
  | .position _ => []

/-- The result leaves of POLICY READ (R155). -/
def readLeaves (n : BankName) (b : Bank) (name : EntryName) : List Byte :=
  numLeaf Leaf.bank 1 n.code ++ numLeaf Leaf.entryCount 2 b.entries.length
    ++ (match b.named name with
      | none => []
      | some (e, p) => numLeaf Leaf.position 2 p ++ e.leaves)
    ++ b.defaultLeaf name

/-- POLICY READ after the checks of R145 (R112, R155). -/
def State.policyRead (s : State) (r : CommandRecord) : State :=
  match r.entryName with
  | none => s.answer r .badArgument []
  | some name =>
    let n := s.roleBank r
    let b := s.policy.bank n
    if n == s.policy.stagingBank && s.policy.staging == .copying then s.answer r .busy []
    else s.answer r (if (b.named name).isSome then .ok else .notFound) (readLeaves n b name)

/-- POLICY READ (R112, R155). -/
def execPolicyRead (s : State) : Host.Outcome State Fault Refusal :=
  s.runCommand Cmd.policyRead [Leaf.role] [Leaf.set, Leaf.type, Leaf.position] State.policyRead

/-! ### COMMIT and the copy (R113, R115) -/

/-- The roles are exchanged, and the former active bank goes to DRAINING or COPYING (R113). -/
def PolicyStore.commit (p : PolicyStore) : PolicyStore :=
  { p with active := p.stagingBank, staging := if 0 < (p.bank p.active).refs then .draining else .copying }

/-- COMMIT after the checks of R145 (R113, R156). -/
def State.commitRoles (s : State) (r : CommandRecord) : State :=
  if s.policy.staging != .ready then s.answer r .busy []
  else
    (s.modPolicy PolicyStore.commit).answer r .ok
      (numLeaf Leaf.bank 1 s.policy.commit.active.code ++ numLeaf Leaf.staging 1 s.policy.commit.staging.code)

/-- COMMIT (R113, R156). -/
def execCommit (s : State) : Host.Outcome State Fault Refusal :=
  s.runCommand Cmd.commit [] [] State.commitRoles

/-- The staging bank holds the contents of the active bank, and is READY (R115). -/
def PolicyStore.copied (p : PolicyStore) : PolicyStore :=
  { p.setStaged { p.staged with entries := (p.bank p.active).entries, defaults := (p.bank p.active).defaults } with
    staging := .ready }

/-- COPY_COMPLETION (R115): the staging state becomes READY and COMMIT SETTLED is queued. -/
def execCopyCompletion (s : State) : Host.Outcome State Fault Refusal :=
  match s.policy.staging with
  | .copying => .next ((s.modPolicy PolicyStore.copied).queueNotice (.commitSettled s.policy.stagingBank))
  | .ready | .draining => .next s

end Sys2Proof.Machine
end

