-- ==== Sys2Proof/Machine/Spill.lean ====
section
/-! DEFINITION. The Spill Port (05_the_spill_port.md): taking a job, and the completions of spills, fills and probes. -/

namespace Sys2Proof.Machine

/-! ### Taking a job (R91, R92, R93, R96) -/

/-- The select period of a spill: the serialized entries written to the start slot's address (R88, R89, R92). -/
def State.spillPeriod (s : State) (j : Job) : SelectPeriod :=
  { command := writeCommand
    address := slotAddress j.channel j.start
    dataOut := serializeAll j.channel j.start ((s.ch j.channel).resident.take j.count)
    dataCount := 8 * j.count }

/-- The select period of a fill: 8k bytes read from the start slot's address (R88, R93). -/
def fillPeriod (j : Job) : SelectPeriod :=
  { command := readCommand, address := slotAddress j.channel j.start, dataOut := [], dataCount := 8 * j.count }

def State.periodOf (s : State) (j : Job) : SelectPeriod :=
  match j.kind with
  | .spill => s.spillPeriod j
  | .fill => fillPeriod j

/-- The two select periods of a probe (R96). -/
def probeTransfer (counter : BitVec 16) : Transfer :=
  .probe { command := writeCommand, address := probeAddress, dataOut := probePattern counter, dataCount := 8 }
    { command := readCommand, address := probeAddress, dataOut := [], dataCount := 8 }

/-- The job the arbiter takes when no probe is pending: the oldest fill, else the oldest spill (R91). -/
def SpillPort.nextJob (p : SpillPort) : Option Job :=
  match p.queue.find? fun j => j.kind == .fill with
  | some j => some j
  | none => p.queue.head?

/-- The probe is taken: the counter rises and the pattern is formed (R96). -/
def State.takeProbe (s : State) : State :=
  s.modSpill fun p =>
    { p with probeCounter := p.probeCounter + 1, inFlight := some (probeTransfer (p.probeCounter + 1)) }

/-- A queued job is taken as the job in flight (R90, R91). -/
def State.takeQueued (s : State) (j : Job) : State :=
  s.modSpill fun p => { p with queue := p.queue.erase j, inFlight := some (.data j (s.periodOf j)) }

/-- TAKE_JOB (R91). While the backing is ABSENT the port makes no transfer (R87). -/
def execTakeJob (s : State) : Host.Outcome State Fault Refusal :=
  match s.spill.inFlight with
  | some _ => .next s
  | none =>
    if s.spill.backing == .absent then .next s
    else if s.spill.pendingProbe then .next s.takeProbe
    else match s.spill.nextJob with
      | none => .next s
      | some j => .next (s.takeQueued j)

/-! ### Completions -/

/-- The wires are free again. -/
def State.freeWires (s : State) : State := s.modSpill fun p => { p with inFlight := none }

/-- A spill's completion moves the k outermost entries out of the window (R77). -/
def Channel.spillTaken (ch : Channel) (k : Nat) : Channel :=
  { ch with resident := ch.resident.drop k, spilled := ch.spilled + k, state := .inMessage }

/-- A spill's completion is taken according to the channel's state (R25, R92). -/
def State.spillDone (s : State) (j : Job) : State :=
  match (s.ch j.channel).state with
  | .spillWait => s.modCh j.channel fun ch => ch.spillTaken j.count
  | .drain => s.leaveDrain j.channel
  | .disabled | .held | .await | .inMessage | .fillWait => s

/-- SPILL_COMPLETION (R92). -/
def execSpillCompletion (s : State) : Host.Outcome State Fault Refusal :=
  match s.spill.inFlight with
  | some (.data { channel := c, kind := .spill, count := k, start := n } _) =>
    .next (s.freeWires.spillDone { channel := c, kind := .spill, count := k, start := n })
  | some (.data { channel := _, kind := .fill, count := _, start := _ } _) | some (.probe _ _) | none => .next s

/-- The filled entries become the resident list (R82). -/
def Channel.fillTaken (ch : Channel) (k : Nat) (es : List ScopeEntry) : Channel :=
  { ch with resident := es, spilled := ch.spilled - k, state := .inMessage }

/-- A good fill's effect on the count and the backing state (R94). -/
def State.goodFill (s : State) : State :=
  let t := s.modSpill fun p =>
    { p with failures := 0, backing := if p.backing == .suspect then .ready else p.backing }
  if s.spill.backing == .suspect then t.noticeBacking else t

/-- A bad fill's effect on the count and the backing state (R94, R98). -/
def State.badFill (s : State) : State :=
  let t := s.modSpill fun p => { p with failures := min 2 (p.failures + 1) }
  match s.spill.backing with
  | .ready => (t.modSpill fun p => { p with backing := .suspect }).noticeBacking
  | .suspect => t.enterLost
  | .absent | .untested | .lost => t

/-- A fill's completion is taken according to the channel's state (R82, R93, R94). -/
def State.fillDone (s : State) (j : Job) (read : List Byte) : State :=
  match (s.ch j.channel).state with
  | .fillWait =>
    match verifyAll j.channel j.count j.start read with
    | some es => (s.modCh j.channel fun ch => ch.fillTaken j.count es).goodFill
    | none => (s.fault j.channel .fillCheck .none true).badFill
  | .drain => s.leaveDrain j.channel
  | .disabled | .held | .await | .inMessage | .spillWait => s

/-- FILL_COMPLETION (R93), with the levels of SDI over the select period; the bytes sampled from them are verified. -/
def execFillCompletion (sdi : List Bool) (s : State) : Host.Outcome State Fault Refusal :=
  match s.spill.inFlight with
  | some (.data { channel := c, kind := .fill, count := k, start := n } period) =>
    if sdi.length == period.levels.length then
      .next (s.freeWires.fillDone { channel := c, kind := .fill, count := k, start := n } (period.received sdi))
    else .next s
  | some (.data { channel := _, kind := .spill, count := _, start := _ } _) | some (.probe _ _) | none => .next s

/-- The probe's outcome is handed to the command that requested it (R96, R158, R169). A notice that waits while no response
does is begun first, if the lane is free (R163, R170, log 30). -/
def State.answerProbe (s : State) : State :=
  match s.mgmt.unit with
  | .executing (.backingRestore tag) =>
    s.returnBegin.respond (responseType Cmd.backingRestore) tag .ok
      (numLeaf Leaf.backing 1 s.spill.backing.code ++ numLeaf Leaf.failures 1 s.spill.failures)
  | .executing (.provisionClose tag) => s.returnBegin.openPart tag
  | .executing (.ready _) | .executing (.countersRead ..) | .executing (.channelReset ..)
  | .idle | .collecting | .responding => s

/-- A passed probe: READY with a count of 0, and a notice if the state changed (R96, R100). -/
def State.probePassed (s : State) : State :=
  let t := s.modSpill fun p => { p with backing := .ready, failures := 0 }
  if s.spill.backing == .ready then t else t.noticeBacking

/-- A failed probe: LOST is entered, unless the backing is LOST already (R96, R98). -/
def State.probeFailed (s : State) : State := if s.spill.backing == .lost then s else s.enterLost

/-- The probe's outcome, then the wires free, the probe no longer pending, and the outcome handed on (R96). -/
def State.probeDone (s : State) (pattern read : List Byte) : State :=
  ((if read == pattern then s.probePassed else s.probeFailed).modSpill
    fun p => { p with inFlight := none, pendingProbe := false }).answerProbe

/-- PROBE_COMPLETION (R96), with the levels of SDI over both select periods; those of the write are ignored (R88). -/
def execProbeCompletion (sdi : List Bool) (s : State) : Host.Outcome State Fault Refusal :=
  match s.spill.inFlight with
  | some (.probe write read) =>
    if sdi.length == write.levels.length + read.levels.length then
      .next (s.probeDone write.dataOut (read.received (sdi.drop write.levels.length)))
    else .next s
  | some (.data _ _) | none => .next s

end Sys2Proof.Machine
end

