-- ==== Sys2Proof/Machine/Timers.lean ====
section
/-! DEFINITION. The Timebase tick and the two expiries (R30 to R32). -/

namespace Sys2Proof.Machine

/-- One tick counts down every running stall timer by 1 (R30, R32). -/
def State.tick (s : State) : State :=
  let t := s.mapCh fun c ch =>
    if s.isData c && stallRuns ch (s.rxOf c) then { ch with stallTimer := ch.stallTimer - 1 } else ch
  if s.mgmtStallRuns then t.modMgmt fun m => { m with stallTimer := m.stallTimer - 1 } else t

/-- TIMEBASE_TICK (R30). -/
def execTimebaseTick (s : State) : Host.Outcome State Fault Refusal := .next s.tick

/-- A data channel's running stall timer has reached 0 (R31, log 11). -/
def State.stallDue (s : State) (c : ChannelNo) : Bool :=
  s.isData c && stallRuns (s.ch c) (s.rxOf c) && (s.ch c).stallTimer == 0

/-- STALL (R31): the channel faults STALL and unwinds. -/
def execStall (channel : ChannelNo) (s : State) : Host.Outcome State Fault Refusal :=
  if s.stallDue channel then .next (s.fault channel .stall .none true) else .next s

/-- MGMT_STALL_EXPIRY (R32): the partial command is dropped with a CHANNEL FAULT notice of kind STALL. -/
def execMgmtStallExpiry (s : State) : Host.Outcome State Fault Refusal :=
  if s.mgmtStallRuns && s.mgmt.stallTimer == 0 then
    .next (s.structuralFault .stall .none s.mgmt.collector.scopes.length)
  else .next s

end Sys2Proof.Machine
end

