-- ==== Sys2Proof/Machine/Reset.lean ====
section
/-! DEFINITION. Power-on reset (R174) and RESTART (R160, R171). -/

namespace Sys2Proof.Machine

/-- POWER_ON_RESET (R174): every block at its power-on values, with the straps latched. -/
def execPowerOnReset (straps : Straps) (s : State) : Host.Outcome State Fault Refusal :=
  .next { State.powerOn straps with pending := s.pending, duringRestart := s.duringRestart }

/-- A data channel record at RESTART (R34, Figure 2-6): the configuration is kept; the windows are deallocated (R70). -/
def Channel.restart (ch : Channel) : Channel :=
  { Channel.powerOn with config := ch.config, state := if ch.config.enabled then .held else .disabled }

/-- A Segment Receiver record at RESTART (R140): credit and expectation are kept, and the channel is unsynchronised. A data
channel's buffer is emptied with its segment in use. -/
def RxChannel.restart (r : RxChannel) (isData : Bool) : RxChannel :=
  if isData then { r with unsync := true, inUse := none, ingress := [] } else { r with unsync := true }

/-- The Spill Port at RESTART (R101). -/
def SpillPort.restart (p : SpillPort) : SpillPort :=
  { p with
    queue := []
    inFlight := none
    pendingProbe := false
    backing := if p.backing == .absent then .absent else .untested
    failures := 0 }

/-- The Policy Store at RESTART (R118). -/
def PolicyStore.restart (p : PolicyStore) : PolicyStore :=
  { p with
    bankA := { p.bankA with refs := 0 }
    bankB := { p.bankB with refs := 0 }
    staging := if p.staging == .ready then .ready else .copying }

/-- A notice in progress at RESTART is sent to its end, and nothing is lowered for it (R162). -/
def ReturnMessage.restart (m : ReturnMessage) : ReturnMessage :=
  match m.kind with
  | .response => m
  | .notice _ => { m with kind := .notice 0 }

/-- The Management Unit at RESTART, its response apart (R160). -/
def MgmtUnit.restart (m : MgmtUnit) : MgmtUnit :=
  { m with
    messageOpen := false
    collector := Collector.empty
    notices := []
    lost := 0
    phase := .provisioning
    returnMsg := m.returnMsg.map ReturnMessage.restart }

/-- The Management Unit takes RESTART (R160): the rest of its segment in use is discarded, and its response is formed. -/
def State.restartUnit (s : State) (r : CommandRecord) : State :=
  ((s.modMgmt MgmtUnit.restart).modRx s.straps.mgmtSel fun x => { x with inUse := none }).answer r .ok
    (numLeaf Leaf.phase 1 Phase.provisioning.code)

/-- The other blocks take RESTART (Figure 10-3), with the management channel's stall timer (R34). -/
def State.restartBlocks (s : State) : State :=
  let t := ((s.mapTx fun c t =>
      if s.isData c then t.unwind ((s.ch c).state.messageOpen && (s.ch c).outputStarted) true else t).mapCh
    fun c ch => if s.isData c then ch.restart else ch).mapRx fun c x => x.restart (s.isData c)
  { ((t.modSpill SpillPort.restart).modPolicy PolicyStore.restart).modMgmt
      (fun m => { m with stallTimer := 0, stallArmed := false }) with
    pointer := 15
    turn := none }

/-- What a command leaves when it is carried out. -/
def State.carriedOut (s : State) (o : Host.Outcome State Fault Refusal) : State :=
  match o with
  | .next t => t
  | .fault _ => s
  | .refused _ => s

/-- An event between the takings of RESTART acts as usual (R172). -/
def State.takeDuring (s : State) (e : RestartEvent) : State :=
  s.carriedOut (match e with
    | .timebaseTick => execTimebaseTick s
    | .stall c => execStall c s
    | .awaitTakeSegment => execAwaitTakeSegment s
    | .takeSegmentFlags => execTakeSegmentFlags s
    | .completeHeader => execCompleteHeader s
    | .takePayloadRun => execTakePayloadRun s
    | .beginClose => execBeginClose s
    | .completeClose => execCompleteClose s
    | .carryOutPendingPush => execCarryOutPendingPush s
    | .degradePendingPush => execDegradePendingPush s
    | .takeJob => execTakeJob s
    | .spillCompletion => execSpillCompletion s
    | .fillCompletion sdi => execFillCompletion sdi s
    | .upstreamLinkDown => execUpstreamLinkDown s
    | .downstreamLinkDown => execDownstreamLinkDown s
    | .segmentReceived unit => execSegmentReceived unit s
    | .downstreamSegmentSent => execDownstreamSegmentSent s)

/-- RESTART (R171, R172): the Management Unit takes it, then the events that fall before the other blocks do, then those
blocks (log 26). -/
def State.restart (s : State) (r : CommandRecord) : State :=
  (s.duringRestart.foldl State.takeDuring { s.restartUnit r with duringRestart := [] }).restartBlocks

/-- RESTART (R160, R171). -/
def execRestart (s : State) : Host.Outcome State Fault Refusal :=
  s.runCommand Cmd.restart [] [] State.restart

end Sys2Proof.Machine
end

