-- ==== Sys2Proof/Machine/Dispatch.lean ====
section
/-! DEFINITION. What each command does: one arm per constructor of `Instr`. -/

namespace Sys2Proof.Machine

/-- The effect of a command on everything but the queue of waiting commands. -/
def exec (i : Instr) (s : State) : Host.Outcome State Fault Refusal :=
  match i with
  | .powerOnReset straps => Sys2Proof.Machine.execPowerOnReset straps s
  | .upstreamLinkDown => Sys2Proof.Machine.execUpstreamLinkDown s
  | .upstreamLinkUp => Sys2Proof.Machine.execUpstreamLinkUp s
  | .downstreamLinkDown => Sys2Proof.Machine.execDownstreamLinkDown s
  | .downstreamLinkUp => Sys2Proof.Machine.execDownstreamLinkUp s
  | .segmentReceived unit => Sys2Proof.Machine.execSegmentReceived unit s
  | .downstreamSegmentDiscard unit => Sys2Proof.Machine.execDownstreamSegmentDiscard unit s
  | .creditWordReceived port unit => Sys2Proof.Machine.execCreditWordReceived port unit s
  | .creditWordGrant => Sys2Proof.Machine.execCreditWordGrant s
  | .timebaseTick => Sys2Proof.Machine.execTimebaseTick s
  | .stall channel => Sys2Proof.Machine.execStall channel s
  | .mgmtStallExpiry => Sys2Proof.Machine.execMgmtStallExpiry s
  | .awaitTakeSegment => Sys2Proof.Machine.execAwaitTakeSegment s
  | .takeSegmentFlags => Sys2Proof.Machine.execTakeSegmentFlags s
  | .completeHeader => Sys2Proof.Machine.execCompleteHeader s
  | .takePayloadRun => Sys2Proof.Machine.execTakePayloadRun s
  | .beginClose => Sys2Proof.Machine.execBeginClose s
  | .completeClose => Sys2Proof.Machine.execCompleteClose s
  | .carryOutPendingPush => Sys2Proof.Machine.execCarryOutPendingPush s
  | .degradePendingPush => Sys2Proof.Machine.execDegradePendingPush s
  | .takeJob => Sys2Proof.Machine.execTakeJob s
  | .spillCompletion => Sys2Proof.Machine.execSpillCompletion s
  | .fillCompletion sdi => Sys2Proof.Machine.execFillCompletion sdi s
  | .probeCompletion sdi => Sys2Proof.Machine.execProbeCompletion sdi s
  | .downstreamSegmentSend => Sys2Proof.Machine.execDownstreamSegmentSend s
  | .downstreamSegmentSent => Sys2Proof.Machine.execDownstreamSegmentSent s
  | .returnMessageBegin => Sys2Proof.Machine.execReturnMessageBegin s
  | .returnSegmentSend => Sys2Proof.Machine.execReturnSegmentSend s
  | .responseSent => Sys2Proof.Machine.execResponseSent s
  | .noticeSent => Sys2Proof.Machine.execNoticeSent s
  | .mgmtTakeSegment => Sys2Proof.Machine.execMgmtTakeSegment s
  | .mgmtParseBytes => Sys2Proof.Machine.execMgmtParseBytes s
  | .unknownCommand => Sys2Proof.Machine.execUnknownCommand s
  | .identify => Sys2Proof.Machine.execIdentify s
  | .status => Sys2Proof.Machine.execStatus s
  | .channelSet => Sys2Proof.Machine.execChannelSet s
  | .channelGet => Sys2Proof.Machine.execChannelGet s
  | .channelReset => Sys2Proof.Machine.execChannelReset s
  | .policyInsert => Sys2Proof.Machine.execPolicyInsert s
  | .policyDelete => Sys2Proof.Machine.execPolicyDelete s
  | .policyRead => Sys2Proof.Machine.execPolicyRead s
  | .defaultSet => Sys2Proof.Machine.execDefaultSet s
  | .commit => Sys2Proof.Machine.execCommit s
  | .countersRead => Sys2Proof.Machine.execCountersRead s
  | .pairRead => Sys2Proof.Machine.execPairRead s
  | .backingRestore => Sys2Proof.Machine.execBackingRestore s
  | .provisionClose => Sys2Proof.Machine.execProvisionClose s
  | .restart => Sys2Proof.Machine.execRestart s
  | .copyCompletion => Sys2Proof.Machine.execCopyCompletion s

end Sys2Proof.Machine
end

