-- ==== Sys2Proof/Machine/Step.lean ====
section
/-! DEFINITION. One step of the block: the command at the front of the queue is taken and carried out; with an empty queue
the block idles (log 2). -/

namespace Sys2Proof.Machine

/-- Takes the oldest waiting command and carries it out with the queue's rest; idles when none waits (log 2). -/
def step (s : State) : Host.Outcome State Fault Refusal :=
  match s.pending with
  | [] => .next s
  | c :: rest => exec c { s with pending := rest }

/-- The state with the command that a table word spells put at the front of its queue; unchanged where the word spells
none, as every word does here, since no row of the table gives bits (log 33). -/
def State.withFetchWord (s : State) (nbits w : Nat) : State :=
  match decodeTableWord nbits w with
  | some c => { s with pending := c :: s.pending }
  | none => s

end Sys2Proof.Machine
end

