-- ==== Sys2Proof/Laws/State.lean ====
section
/-! SUPPORT. What each update of the state leaves and what it writes: one lemma for each field and update, all true by
computation, so that no proof unfolds a record update. -/

namespace Sys2Proof.Machine

/-! ### A changed record is a set record -/

@[simp] theorem State.modCh_eq (s : State) (c : ChannelNo) (f : Channel → Channel) :
    s.modCh c f = s.setCh c (f (s.ch c)) := rfl
@[simp] theorem State.modRx_eq (s : State) (c : ChannelNo) (f : RxChannel → RxChannel) :
    s.modRx c f = s.setRx c (f (s.rxOf c)) := rfl
@[simp] theorem State.modTx_eq (s : State) (c : ChannelNo) (f : TxChannel → TxChannel) :
    s.modTx c f = s.setTx c (f (s.txOf c)) := rfl

/-! ### setCh -/

@[simp] theorem State.setCh_straps (s : State) (c : ChannelNo) (x : Channel) :
    (s.setCh c x).straps = s.straps := rfl
@[simp] theorem State.setCh_upPort (s : State) (c : ChannelNo) (x : Channel) :
    (s.setCh c x).upPort = s.upPort := rfl
@[simp] theorem State.setCh_dnPort (s : State) (c : ChannelNo) (x : Channel) :
    (s.setCh c x).dnPort = s.dnPort := rfl
@[simp] theorem State.setCh_linkErrors (s : State) (c : ChannelNo) (x : Channel) :
    (s.setCh c x).linkErrors = s.linkErrors := rfl
@[simp] theorem State.setCh_rx (s : State) (c : ChannelNo) (x : Channel) :
    (s.setCh c x).rx = s.rx := rfl
@[simp] theorem State.setCh_pointer (s : State) (c : ChannelNo) (x : Channel) :
    (s.setCh c x).pointer = s.pointer := rfl
@[simp] theorem State.setCh_turn (s : State) (c : ChannelNo) (x : Channel) :
    (s.setCh c x).turn = s.turn := rfl
@[simp] theorem State.setCh_spill (s : State) (c : ChannelNo) (x : Channel) :
    (s.setCh c x).spill = s.spill := rfl
@[simp] theorem State.setCh_policy (s : State) (c : ChannelNo) (x : Channel) :
    (s.setCh c x).policy = s.policy := rfl
@[simp] theorem State.setCh_counters (s : State) (c : ChannelNo) (x : Channel) :
    (s.setCh c x).counters = s.counters := rfl
@[simp] theorem State.setCh_tx (s : State) (c : ChannelNo) (x : Channel) :
    (s.setCh c x).tx = s.tx := rfl
@[simp] theorem State.setCh_dnPointer (s : State) (c : ChannelNo) (x : Channel) :
    (s.setCh c x).dnPointer = s.dnPointer := rfl
@[simp] theorem State.setCh_dnSending (s : State) (c : ChannelNo) (x : Channel) :
    (s.setCh c x).dnSending = s.dnSending := rfl
@[simp] theorem State.setCh_mgmt (s : State) (c : ChannelNo) (x : Channel) :
    (s.setCh c x).mgmt = s.mgmt := rfl
@[simp] theorem State.setCh_pending (s : State) (c : ChannelNo) (x : Channel) :
    (s.setCh c x).pending = s.pending := rfl
@[simp] theorem State.setCh_duringRestart (s : State) (c : ChannelNo) (x : Channel) :
    (s.setCh c x).duringRestart = s.duringRestart := rfl
@[simp] theorem State.setCh_ch (s : State) (c : ChannelNo) (x : Channel) (d : ChannelNo) :
    (s.setCh c x).ch d = if d = c then x else s.ch d := by
  simp only [State.setCh, State.ch, Fin.getElem_fin, Vector.getElem_set, eq_comm (a := d), Fin.ext_iff]
@[simp] theorem State.setCh_rxOf (s : State) (c : ChannelNo) (x : Channel) (d : ChannelNo) :
    (s.setCh c x).rxOf d = s.rxOf d := rfl
@[simp] theorem State.setCh_txOf (s : State) (c : ChannelNo) (x : Channel) (d : ChannelNo) :
    (s.setCh c x).txOf d = s.txOf d := rfl
@[simp] theorem State.setCh_isData (s : State) (c : ChannelNo) (x : Channel) (d : ChannelNo) :
    (s.setCh c x).isData d = s.isData d := rfl

/-! ### setRx -/

@[simp] theorem State.setRx_straps (s : State) (c : ChannelNo) (x : RxChannel) :
    (s.setRx c x).straps = s.straps := rfl
@[simp] theorem State.setRx_upPort (s : State) (c : ChannelNo) (x : RxChannel) :
    (s.setRx c x).upPort = s.upPort := rfl
@[simp] theorem State.setRx_dnPort (s : State) (c : ChannelNo) (x : RxChannel) :
    (s.setRx c x).dnPort = s.dnPort := rfl
@[simp] theorem State.setRx_linkErrors (s : State) (c : ChannelNo) (x : RxChannel) :
    (s.setRx c x).linkErrors = s.linkErrors := rfl
@[simp] theorem State.setRx_table (s : State) (c : ChannelNo) (x : RxChannel) :
    (s.setRx c x).table = s.table := rfl
@[simp] theorem State.setRx_pointer (s : State) (c : ChannelNo) (x : RxChannel) :
    (s.setRx c x).pointer = s.pointer := rfl
@[simp] theorem State.setRx_turn (s : State) (c : ChannelNo) (x : RxChannel) :
    (s.setRx c x).turn = s.turn := rfl
@[simp] theorem State.setRx_spill (s : State) (c : ChannelNo) (x : RxChannel) :
    (s.setRx c x).spill = s.spill := rfl
@[simp] theorem State.setRx_policy (s : State) (c : ChannelNo) (x : RxChannel) :
    (s.setRx c x).policy = s.policy := rfl
@[simp] theorem State.setRx_counters (s : State) (c : ChannelNo) (x : RxChannel) :
    (s.setRx c x).counters = s.counters := rfl
@[simp] theorem State.setRx_tx (s : State) (c : ChannelNo) (x : RxChannel) :
    (s.setRx c x).tx = s.tx := rfl
@[simp] theorem State.setRx_dnPointer (s : State) (c : ChannelNo) (x : RxChannel) :
    (s.setRx c x).dnPointer = s.dnPointer := rfl
@[simp] theorem State.setRx_dnSending (s : State) (c : ChannelNo) (x : RxChannel) :
    (s.setRx c x).dnSending = s.dnSending := rfl
@[simp] theorem State.setRx_mgmt (s : State) (c : ChannelNo) (x : RxChannel) :
    (s.setRx c x).mgmt = s.mgmt := rfl
@[simp] theorem State.setRx_pending (s : State) (c : ChannelNo) (x : RxChannel) :
    (s.setRx c x).pending = s.pending := rfl
@[simp] theorem State.setRx_duringRestart (s : State) (c : ChannelNo) (x : RxChannel) :
    (s.setRx c x).duringRestart = s.duringRestart := rfl
@[simp] theorem State.setRx_ch (s : State) (c : ChannelNo) (x : RxChannel) (d : ChannelNo) :
    (s.setRx c x).ch d = s.ch d := rfl
@[simp] theorem State.setRx_rxOf (s : State) (c : ChannelNo) (x : RxChannel) (d : ChannelNo) :
    (s.setRx c x).rxOf d = if d = c then x else s.rxOf d := by
  simp only [State.setRx, State.rxOf, Fin.getElem_fin, Vector.getElem_set, eq_comm (a := d), Fin.ext_iff]
@[simp] theorem State.setRx_txOf (s : State) (c : ChannelNo) (x : RxChannel) (d : ChannelNo) :
    (s.setRx c x).txOf d = s.txOf d := rfl
@[simp] theorem State.setRx_isData (s : State) (c : ChannelNo) (x : RxChannel) (d : ChannelNo) :
    (s.setRx c x).isData d = s.isData d := rfl

/-! ### setTx -/

@[simp] theorem State.setTx_straps (s : State) (c : ChannelNo) (x : TxChannel) :
    (s.setTx c x).straps = s.straps := rfl
@[simp] theorem State.setTx_upPort (s : State) (c : ChannelNo) (x : TxChannel) :
    (s.setTx c x).upPort = s.upPort := rfl
@[simp] theorem State.setTx_dnPort (s : State) (c : ChannelNo) (x : TxChannel) :
    (s.setTx c x).dnPort = s.dnPort := rfl
@[simp] theorem State.setTx_linkErrors (s : State) (c : ChannelNo) (x : TxChannel) :
    (s.setTx c x).linkErrors = s.linkErrors := rfl
@[simp] theorem State.setTx_rx (s : State) (c : ChannelNo) (x : TxChannel) :
    (s.setTx c x).rx = s.rx := rfl
@[simp] theorem State.setTx_table (s : State) (c : ChannelNo) (x : TxChannel) :
    (s.setTx c x).table = s.table := rfl
@[simp] theorem State.setTx_pointer (s : State) (c : ChannelNo) (x : TxChannel) :
    (s.setTx c x).pointer = s.pointer := rfl
@[simp] theorem State.setTx_turn (s : State) (c : ChannelNo) (x : TxChannel) :
    (s.setTx c x).turn = s.turn := rfl
@[simp] theorem State.setTx_spill (s : State) (c : ChannelNo) (x : TxChannel) :
    (s.setTx c x).spill = s.spill := rfl
@[simp] theorem State.setTx_policy (s : State) (c : ChannelNo) (x : TxChannel) :
    (s.setTx c x).policy = s.policy := rfl
@[simp] theorem State.setTx_counters (s : State) (c : ChannelNo) (x : TxChannel) :
    (s.setTx c x).counters = s.counters := rfl
@[simp] theorem State.setTx_dnPointer (s : State) (c : ChannelNo) (x : TxChannel) :
    (s.setTx c x).dnPointer = s.dnPointer := rfl
@[simp] theorem State.setTx_dnSending (s : State) (c : ChannelNo) (x : TxChannel) :
    (s.setTx c x).dnSending = s.dnSending := rfl
@[simp] theorem State.setTx_mgmt (s : State) (c : ChannelNo) (x : TxChannel) :
    (s.setTx c x).mgmt = s.mgmt := rfl
@[simp] theorem State.setTx_pending (s : State) (c : ChannelNo) (x : TxChannel) :
    (s.setTx c x).pending = s.pending := rfl
@[simp] theorem State.setTx_duringRestart (s : State) (c : ChannelNo) (x : TxChannel) :
    (s.setTx c x).duringRestart = s.duringRestart := rfl
@[simp] theorem State.setTx_ch (s : State) (c : ChannelNo) (x : TxChannel) (d : ChannelNo) :
    (s.setTx c x).ch d = s.ch d := rfl
@[simp] theorem State.setTx_rxOf (s : State) (c : ChannelNo) (x : TxChannel) (d : ChannelNo) :
    (s.setTx c x).rxOf d = s.rxOf d := rfl
@[simp] theorem State.setTx_txOf (s : State) (c : ChannelNo) (x : TxChannel) (d : ChannelNo) :
    (s.setTx c x).txOf d = if d = c then x else s.txOf d := by
  simp only [State.setTx, State.txOf, Fin.getElem_fin, Vector.getElem_set, eq_comm (a := d), Fin.ext_iff]
@[simp] theorem State.setTx_isData (s : State) (c : ChannelNo) (x : TxChannel) (d : ChannelNo) :
    (s.setTx c x).isData d = s.isData d := rfl

/-! ### mapCh -/

@[simp] theorem State.mapCh_straps (s : State) (f : ChannelNo → Channel → Channel) :
    (s.mapCh f).straps = s.straps := by rw [State.mapCh]
@[simp] theorem State.mapCh_upPort (s : State) (f : ChannelNo → Channel → Channel) :
    (s.mapCh f).upPort = s.upPort := by rw [State.mapCh]
@[simp] theorem State.mapCh_dnPort (s : State) (f : ChannelNo → Channel → Channel) :
    (s.mapCh f).dnPort = s.dnPort := by rw [State.mapCh]
@[simp] theorem State.mapCh_linkErrors (s : State) (f : ChannelNo → Channel → Channel) :
    (s.mapCh f).linkErrors = s.linkErrors := by rw [State.mapCh]
@[simp] theorem State.mapCh_rx (s : State) (f : ChannelNo → Channel → Channel) :
    (s.mapCh f).rx = s.rx := by rw [State.mapCh]
@[simp] theorem State.mapCh_pointer (s : State) (f : ChannelNo → Channel → Channel) :
    (s.mapCh f).pointer = s.pointer := by rw [State.mapCh]
@[simp] theorem State.mapCh_turn (s : State) (f : ChannelNo → Channel → Channel) :
    (s.mapCh f).turn = s.turn := by rw [State.mapCh]
@[simp] theorem State.mapCh_spill (s : State) (f : ChannelNo → Channel → Channel) :
    (s.mapCh f).spill = s.spill := by rw [State.mapCh]
@[simp] theorem State.mapCh_policy (s : State) (f : ChannelNo → Channel → Channel) :
    (s.mapCh f).policy = s.policy := by rw [State.mapCh]
@[simp] theorem State.mapCh_counters (s : State) (f : ChannelNo → Channel → Channel) :
    (s.mapCh f).counters = s.counters := by rw [State.mapCh]
@[simp] theorem State.mapCh_tx (s : State) (f : ChannelNo → Channel → Channel) :
    (s.mapCh f).tx = s.tx := by rw [State.mapCh]
@[simp] theorem State.mapCh_dnPointer (s : State) (f : ChannelNo → Channel → Channel) :
    (s.mapCh f).dnPointer = s.dnPointer := by rw [State.mapCh]
@[simp] theorem State.mapCh_dnSending (s : State) (f : ChannelNo → Channel → Channel) :
    (s.mapCh f).dnSending = s.dnSending := by rw [State.mapCh]
@[simp] theorem State.mapCh_mgmt (s : State) (f : ChannelNo → Channel → Channel) :
    (s.mapCh f).mgmt = s.mgmt := by rw [State.mapCh]
@[simp] theorem State.mapCh_pending (s : State) (f : ChannelNo → Channel → Channel) :
    (s.mapCh f).pending = s.pending := by rw [State.mapCh]
@[simp] theorem State.mapCh_duringRestart (s : State) (f : ChannelNo → Channel → Channel) :
    (s.mapCh f).duringRestart = s.duringRestart := by rw [State.mapCh]
@[simp] theorem State.mapCh_ch (s : State) (f : ChannelNo → Channel → Channel) (d : ChannelNo) :
    (s.mapCh f).ch d = f d (s.ch d) := by
  simp only [State.mapCh, State.ch, Fin.getElem_fin, Vector.getElem_ofFn]
@[simp] theorem State.mapCh_rxOf (s : State) (f : ChannelNo → Channel → Channel) (d : ChannelNo) :
    (s.mapCh f).rxOf d = s.rxOf d := by rw [State.mapCh, State.rxOf, State.rxOf]
@[simp] theorem State.mapCh_txOf (s : State) (f : ChannelNo → Channel → Channel) (d : ChannelNo) :
    (s.mapCh f).txOf d = s.txOf d := by rw [State.mapCh, State.txOf, State.txOf]
@[simp] theorem State.mapCh_isData (s : State) (f : ChannelNo → Channel → Channel) (d : ChannelNo) :
    (s.mapCh f).isData d = s.isData d := by rw [State.mapCh, State.isData, State.isData]

/-! ### mapRx -/

@[simp] theorem State.mapRx_straps (s : State) (f : ChannelNo → RxChannel → RxChannel) :
    (s.mapRx f).straps = s.straps := by rw [State.mapRx]
@[simp] theorem State.mapRx_upPort (s : State) (f : ChannelNo → RxChannel → RxChannel) :
    (s.mapRx f).upPort = s.upPort := by rw [State.mapRx]
@[simp] theorem State.mapRx_dnPort (s : State) (f : ChannelNo → RxChannel → RxChannel) :
    (s.mapRx f).dnPort = s.dnPort := by rw [State.mapRx]
@[simp] theorem State.mapRx_linkErrors (s : State) (f : ChannelNo → RxChannel → RxChannel) :
    (s.mapRx f).linkErrors = s.linkErrors := by rw [State.mapRx]
@[simp] theorem State.mapRx_table (s : State) (f : ChannelNo → RxChannel → RxChannel) :
    (s.mapRx f).table = s.table := by rw [State.mapRx]
@[simp] theorem State.mapRx_pointer (s : State) (f : ChannelNo → RxChannel → RxChannel) :
    (s.mapRx f).pointer = s.pointer := by rw [State.mapRx]
@[simp] theorem State.mapRx_turn (s : State) (f : ChannelNo → RxChannel → RxChannel) :
    (s.mapRx f).turn = s.turn := by rw [State.mapRx]
@[simp] theorem State.mapRx_spill (s : State) (f : ChannelNo → RxChannel → RxChannel) :
    (s.mapRx f).spill = s.spill := by rw [State.mapRx]
@[simp] theorem State.mapRx_policy (s : State) (f : ChannelNo → RxChannel → RxChannel) :
    (s.mapRx f).policy = s.policy := by rw [State.mapRx]
@[simp] theorem State.mapRx_counters (s : State) (f : ChannelNo → RxChannel → RxChannel) :
    (s.mapRx f).counters = s.counters := by rw [State.mapRx]
@[simp] theorem State.mapRx_tx (s : State) (f : ChannelNo → RxChannel → RxChannel) :
    (s.mapRx f).tx = s.tx := by rw [State.mapRx]
@[simp] theorem State.mapRx_dnPointer (s : State) (f : ChannelNo → RxChannel → RxChannel) :
    (s.mapRx f).dnPointer = s.dnPointer := by rw [State.mapRx]
@[simp] theorem State.mapRx_dnSending (s : State) (f : ChannelNo → RxChannel → RxChannel) :
    (s.mapRx f).dnSending = s.dnSending := by rw [State.mapRx]
@[simp] theorem State.mapRx_mgmt (s : State) (f : ChannelNo → RxChannel → RxChannel) :
    (s.mapRx f).mgmt = s.mgmt := by rw [State.mapRx]
@[simp] theorem State.mapRx_pending (s : State) (f : ChannelNo → RxChannel → RxChannel) :
    (s.mapRx f).pending = s.pending := by rw [State.mapRx]
@[simp] theorem State.mapRx_duringRestart (s : State) (f : ChannelNo → RxChannel → RxChannel) :
    (s.mapRx f).duringRestart = s.duringRestart := by rw [State.mapRx]
@[simp] theorem State.mapRx_ch (s : State) (f : ChannelNo → RxChannel → RxChannel) (d : ChannelNo) :
    (s.mapRx f).ch d = s.ch d := by rw [State.mapRx, State.ch, State.ch]
@[simp] theorem State.mapRx_rxOf (s : State) (f : ChannelNo → RxChannel → RxChannel) (d : ChannelNo) :
    (s.mapRx f).rxOf d = f d (s.rxOf d) := by
  simp only [State.mapRx, State.rxOf, Fin.getElem_fin, Vector.getElem_ofFn]
@[simp] theorem State.mapRx_txOf (s : State) (f : ChannelNo → RxChannel → RxChannel) (d : ChannelNo) :
    (s.mapRx f).txOf d = s.txOf d := by rw [State.mapRx, State.txOf, State.txOf]
@[simp] theorem State.mapRx_isData (s : State) (f : ChannelNo → RxChannel → RxChannel) (d : ChannelNo) :
    (s.mapRx f).isData d = s.isData d := by rw [State.mapRx, State.isData, State.isData]

/-! ### mapTx -/

@[simp] theorem State.mapTx_straps (s : State) (f : ChannelNo → TxChannel → TxChannel) :
    (s.mapTx f).straps = s.straps := by rw [State.mapTx]
@[simp] theorem State.mapTx_upPort (s : State) (f : ChannelNo → TxChannel → TxChannel) :
    (s.mapTx f).upPort = s.upPort := by rw [State.mapTx]
@[simp] theorem State.mapTx_dnPort (s : State) (f : ChannelNo → TxChannel → TxChannel) :
    (s.mapTx f).dnPort = s.dnPort := by rw [State.mapTx]
@[simp] theorem State.mapTx_linkErrors (s : State) (f : ChannelNo → TxChannel → TxChannel) :
    (s.mapTx f).linkErrors = s.linkErrors := by rw [State.mapTx]
@[simp] theorem State.mapTx_rx (s : State) (f : ChannelNo → TxChannel → TxChannel) :
    (s.mapTx f).rx = s.rx := by rw [State.mapTx]
@[simp] theorem State.mapTx_table (s : State) (f : ChannelNo → TxChannel → TxChannel) :
    (s.mapTx f).table = s.table := by rw [State.mapTx]
@[simp] theorem State.mapTx_pointer (s : State) (f : ChannelNo → TxChannel → TxChannel) :
    (s.mapTx f).pointer = s.pointer := by rw [State.mapTx]
@[simp] theorem State.mapTx_turn (s : State) (f : ChannelNo → TxChannel → TxChannel) :
    (s.mapTx f).turn = s.turn := by rw [State.mapTx]
@[simp] theorem State.mapTx_spill (s : State) (f : ChannelNo → TxChannel → TxChannel) :
    (s.mapTx f).spill = s.spill := by rw [State.mapTx]
@[simp] theorem State.mapTx_policy (s : State) (f : ChannelNo → TxChannel → TxChannel) :
    (s.mapTx f).policy = s.policy := by rw [State.mapTx]
@[simp] theorem State.mapTx_counters (s : State) (f : ChannelNo → TxChannel → TxChannel) :
    (s.mapTx f).counters = s.counters := by rw [State.mapTx]
@[simp] theorem State.mapTx_dnPointer (s : State) (f : ChannelNo → TxChannel → TxChannel) :
    (s.mapTx f).dnPointer = s.dnPointer := by rw [State.mapTx]
@[simp] theorem State.mapTx_dnSending (s : State) (f : ChannelNo → TxChannel → TxChannel) :
    (s.mapTx f).dnSending = s.dnSending := by rw [State.mapTx]
@[simp] theorem State.mapTx_mgmt (s : State) (f : ChannelNo → TxChannel → TxChannel) :
    (s.mapTx f).mgmt = s.mgmt := by rw [State.mapTx]
@[simp] theorem State.mapTx_pending (s : State) (f : ChannelNo → TxChannel → TxChannel) :
    (s.mapTx f).pending = s.pending := by rw [State.mapTx]
@[simp] theorem State.mapTx_duringRestart (s : State) (f : ChannelNo → TxChannel → TxChannel) :
    (s.mapTx f).duringRestart = s.duringRestart := by rw [State.mapTx]
@[simp] theorem State.mapTx_ch (s : State) (f : ChannelNo → TxChannel → TxChannel) (d : ChannelNo) :
    (s.mapTx f).ch d = s.ch d := by rw [State.mapTx, State.ch, State.ch]
@[simp] theorem State.mapTx_rxOf (s : State) (f : ChannelNo → TxChannel → TxChannel) (d : ChannelNo) :
    (s.mapTx f).rxOf d = s.rxOf d := by rw [State.mapTx, State.rxOf, State.rxOf]
@[simp] theorem State.mapTx_txOf (s : State) (f : ChannelNo → TxChannel → TxChannel) (d : ChannelNo) :
    (s.mapTx f).txOf d = f d (s.txOf d) := by
  simp only [State.mapTx, State.txOf, Fin.getElem_fin, Vector.getElem_ofFn]
@[simp] theorem State.mapTx_isData (s : State) (f : ChannelNo → TxChannel → TxChannel) (d : ChannelNo) :
    (s.mapTx f).isData d = s.isData d := by rw [State.mapTx, State.isData, State.isData]

/-! ### modSpill -/

@[simp] theorem State.modSpill_straps (s : State) (f : SpillPort → SpillPort) :
    (s.modSpill f).straps = s.straps := rfl
@[simp] theorem State.modSpill_upPort (s : State) (f : SpillPort → SpillPort) :
    (s.modSpill f).upPort = s.upPort := rfl
@[simp] theorem State.modSpill_dnPort (s : State) (f : SpillPort → SpillPort) :
    (s.modSpill f).dnPort = s.dnPort := rfl
@[simp] theorem State.modSpill_linkErrors (s : State) (f : SpillPort → SpillPort) :
    (s.modSpill f).linkErrors = s.linkErrors := rfl
@[simp] theorem State.modSpill_rx (s : State) (f : SpillPort → SpillPort) :
    (s.modSpill f).rx = s.rx := rfl
@[simp] theorem State.modSpill_table (s : State) (f : SpillPort → SpillPort) :
    (s.modSpill f).table = s.table := rfl
@[simp] theorem State.modSpill_pointer (s : State) (f : SpillPort → SpillPort) :
    (s.modSpill f).pointer = s.pointer := rfl
@[simp] theorem State.modSpill_turn (s : State) (f : SpillPort → SpillPort) :
    (s.modSpill f).turn = s.turn := rfl
@[simp] theorem State.modSpill_spill (s : State) (f : SpillPort → SpillPort) :
    (s.modSpill f).spill = f s.spill := rfl
@[simp] theorem State.modSpill_policy (s : State) (f : SpillPort → SpillPort) :
    (s.modSpill f).policy = s.policy := rfl
@[simp] theorem State.modSpill_counters (s : State) (f : SpillPort → SpillPort) :
    (s.modSpill f).counters = s.counters := rfl
@[simp] theorem State.modSpill_tx (s : State) (f : SpillPort → SpillPort) :
    (s.modSpill f).tx = s.tx := rfl
@[simp] theorem State.modSpill_dnPointer (s : State) (f : SpillPort → SpillPort) :
    (s.modSpill f).dnPointer = s.dnPointer := rfl
@[simp] theorem State.modSpill_dnSending (s : State) (f : SpillPort → SpillPort) :
    (s.modSpill f).dnSending = s.dnSending := rfl
@[simp] theorem State.modSpill_mgmt (s : State) (f : SpillPort → SpillPort) :
    (s.modSpill f).mgmt = s.mgmt := rfl
@[simp] theorem State.modSpill_pending (s : State) (f : SpillPort → SpillPort) :
    (s.modSpill f).pending = s.pending := rfl
@[simp] theorem State.modSpill_duringRestart (s : State) (f : SpillPort → SpillPort) :
    (s.modSpill f).duringRestart = s.duringRestart := rfl
@[simp] theorem State.modSpill_ch (s : State) (f : SpillPort → SpillPort) (d : ChannelNo) :
    (s.modSpill f).ch d = s.ch d := rfl
@[simp] theorem State.modSpill_rxOf (s : State) (f : SpillPort → SpillPort) (d : ChannelNo) :
    (s.modSpill f).rxOf d = s.rxOf d := rfl
@[simp] theorem State.modSpill_txOf (s : State) (f : SpillPort → SpillPort) (d : ChannelNo) :
    (s.modSpill f).txOf d = s.txOf d := rfl
@[simp] theorem State.modSpill_isData (s : State) (f : SpillPort → SpillPort) (d : ChannelNo) :
    (s.modSpill f).isData d = s.isData d := rfl

/-! ### modPolicy -/

@[simp] theorem State.modPolicy_straps (s : State) (f : PolicyStore → PolicyStore) :
    (s.modPolicy f).straps = s.straps := rfl
@[simp] theorem State.modPolicy_upPort (s : State) (f : PolicyStore → PolicyStore) :
    (s.modPolicy f).upPort = s.upPort := rfl
@[simp] theorem State.modPolicy_dnPort (s : State) (f : PolicyStore → PolicyStore) :
    (s.modPolicy f).dnPort = s.dnPort := rfl
@[simp] theorem State.modPolicy_linkErrors (s : State) (f : PolicyStore → PolicyStore) :
    (s.modPolicy f).linkErrors = s.linkErrors := rfl
@[simp] theorem State.modPolicy_rx (s : State) (f : PolicyStore → PolicyStore) :
    (s.modPolicy f).rx = s.rx := rfl
@[simp] theorem State.modPolicy_table (s : State) (f : PolicyStore → PolicyStore) :
    (s.modPolicy f).table = s.table := rfl
@[simp] theorem State.modPolicy_pointer (s : State) (f : PolicyStore → PolicyStore) :
    (s.modPolicy f).pointer = s.pointer := rfl
@[simp] theorem State.modPolicy_turn (s : State) (f : PolicyStore → PolicyStore) :
    (s.modPolicy f).turn = s.turn := rfl
@[simp] theorem State.modPolicy_spill (s : State) (f : PolicyStore → PolicyStore) :
    (s.modPolicy f).spill = s.spill := rfl
@[simp] theorem State.modPolicy_policy (s : State) (f : PolicyStore → PolicyStore) :
    (s.modPolicy f).policy = f s.policy := rfl
@[simp] theorem State.modPolicy_counters (s : State) (f : PolicyStore → PolicyStore) :
    (s.modPolicy f).counters = s.counters := rfl
@[simp] theorem State.modPolicy_tx (s : State) (f : PolicyStore → PolicyStore) :
    (s.modPolicy f).tx = s.tx := rfl
@[simp] theorem State.modPolicy_dnPointer (s : State) (f : PolicyStore → PolicyStore) :
    (s.modPolicy f).dnPointer = s.dnPointer := rfl
@[simp] theorem State.modPolicy_dnSending (s : State) (f : PolicyStore → PolicyStore) :
    (s.modPolicy f).dnSending = s.dnSending := rfl
@[simp] theorem State.modPolicy_mgmt (s : State) (f : PolicyStore → PolicyStore) :
    (s.modPolicy f).mgmt = s.mgmt := rfl
@[simp] theorem State.modPolicy_pending (s : State) (f : PolicyStore → PolicyStore) :
    (s.modPolicy f).pending = s.pending := rfl
@[simp] theorem State.modPolicy_duringRestart (s : State) (f : PolicyStore → PolicyStore) :
    (s.modPolicy f).duringRestart = s.duringRestart := rfl
@[simp] theorem State.modPolicy_ch (s : State) (f : PolicyStore → PolicyStore) (d : ChannelNo) :
    (s.modPolicy f).ch d = s.ch d := rfl
@[simp] theorem State.modPolicy_rxOf (s : State) (f : PolicyStore → PolicyStore) (d : ChannelNo) :
    (s.modPolicy f).rxOf d = s.rxOf d := rfl
@[simp] theorem State.modPolicy_txOf (s : State) (f : PolicyStore → PolicyStore) (d : ChannelNo) :
    (s.modPolicy f).txOf d = s.txOf d := rfl
@[simp] theorem State.modPolicy_isData (s : State) (f : PolicyStore → PolicyStore) (d : ChannelNo) :
    (s.modPolicy f).isData d = s.isData d := rfl

/-! ### modMgmt -/

@[simp] theorem State.modMgmt_straps (s : State) (f : MgmtUnit → MgmtUnit) :
    (s.modMgmt f).straps = s.straps := rfl
@[simp] theorem State.modMgmt_upPort (s : State) (f : MgmtUnit → MgmtUnit) :
    (s.modMgmt f).upPort = s.upPort := rfl
@[simp] theorem State.modMgmt_dnPort (s : State) (f : MgmtUnit → MgmtUnit) :
    (s.modMgmt f).dnPort = s.dnPort := rfl
@[simp] theorem State.modMgmt_linkErrors (s : State) (f : MgmtUnit → MgmtUnit) :
    (s.modMgmt f).linkErrors = s.linkErrors := rfl
@[simp] theorem State.modMgmt_rx (s : State) (f : MgmtUnit → MgmtUnit) :
    (s.modMgmt f).rx = s.rx := rfl
@[simp] theorem State.modMgmt_table (s : State) (f : MgmtUnit → MgmtUnit) :
    (s.modMgmt f).table = s.table := rfl
@[simp] theorem State.modMgmt_pointer (s : State) (f : MgmtUnit → MgmtUnit) :
    (s.modMgmt f).pointer = s.pointer := rfl
@[simp] theorem State.modMgmt_turn (s : State) (f : MgmtUnit → MgmtUnit) :
    (s.modMgmt f).turn = s.turn := rfl
@[simp] theorem State.modMgmt_spill (s : State) (f : MgmtUnit → MgmtUnit) :
    (s.modMgmt f).spill = s.spill := rfl
@[simp] theorem State.modMgmt_policy (s : State) (f : MgmtUnit → MgmtUnit) :
    (s.modMgmt f).policy = s.policy := rfl
@[simp] theorem State.modMgmt_counters (s : State) (f : MgmtUnit → MgmtUnit) :
    (s.modMgmt f).counters = s.counters := rfl
@[simp] theorem State.modMgmt_tx (s : State) (f : MgmtUnit → MgmtUnit) :
    (s.modMgmt f).tx = s.tx := rfl
@[simp] theorem State.modMgmt_dnPointer (s : State) (f : MgmtUnit → MgmtUnit) :
    (s.modMgmt f).dnPointer = s.dnPointer := rfl
@[simp] theorem State.modMgmt_dnSending (s : State) (f : MgmtUnit → MgmtUnit) :
    (s.modMgmt f).dnSending = s.dnSending := rfl
@[simp] theorem State.modMgmt_mgmt (s : State) (f : MgmtUnit → MgmtUnit) :
    (s.modMgmt f).mgmt = f s.mgmt := rfl
@[simp] theorem State.modMgmt_pending (s : State) (f : MgmtUnit → MgmtUnit) :
    (s.modMgmt f).pending = s.pending := rfl
@[simp] theorem State.modMgmt_duringRestart (s : State) (f : MgmtUnit → MgmtUnit) :
    (s.modMgmt f).duringRestart = s.duringRestart := rfl
@[simp] theorem State.modMgmt_ch (s : State) (f : MgmtUnit → MgmtUnit) (d : ChannelNo) :
    (s.modMgmt f).ch d = s.ch d := rfl
@[simp] theorem State.modMgmt_rxOf (s : State) (f : MgmtUnit → MgmtUnit) (d : ChannelNo) :
    (s.modMgmt f).rxOf d = s.rxOf d := rfl
@[simp] theorem State.modMgmt_txOf (s : State) (f : MgmtUnit → MgmtUnit) (d : ChannelNo) :
    (s.modMgmt f).txOf d = s.txOf d := rfl
@[simp] theorem State.modMgmt_isData (s : State) (f : MgmtUnit → MgmtUnit) (d : ChannelNo) :
    (s.modMgmt f).isData d = s.isData d := rfl

/-! ### modErrors -/

@[simp] theorem State.modErrors_straps (s : State) (f : LinkErrors → LinkErrors) :
    (s.modErrors f).straps = s.straps := rfl
@[simp] theorem State.modErrors_upPort (s : State) (f : LinkErrors → LinkErrors) :
    (s.modErrors f).upPort = s.upPort := rfl
@[simp] theorem State.modErrors_dnPort (s : State) (f : LinkErrors → LinkErrors) :
    (s.modErrors f).dnPort = s.dnPort := rfl
@[simp] theorem State.modErrors_linkErrors (s : State) (f : LinkErrors → LinkErrors) :
    (s.modErrors f).linkErrors = f s.linkErrors := rfl
@[simp] theorem State.modErrors_rx (s : State) (f : LinkErrors → LinkErrors) :
    (s.modErrors f).rx = s.rx := rfl
@[simp] theorem State.modErrors_table (s : State) (f : LinkErrors → LinkErrors) :
    (s.modErrors f).table = s.table := rfl
@[simp] theorem State.modErrors_pointer (s : State) (f : LinkErrors → LinkErrors) :
    (s.modErrors f).pointer = s.pointer := rfl
@[simp] theorem State.modErrors_turn (s : State) (f : LinkErrors → LinkErrors) :
    (s.modErrors f).turn = s.turn := rfl
@[simp] theorem State.modErrors_spill (s : State) (f : LinkErrors → LinkErrors) :
    (s.modErrors f).spill = s.spill := rfl
@[simp] theorem State.modErrors_policy (s : State) (f : LinkErrors → LinkErrors) :
    (s.modErrors f).policy = s.policy := rfl
@[simp] theorem State.modErrors_counters (s : State) (f : LinkErrors → LinkErrors) :
    (s.modErrors f).counters = s.counters := rfl
@[simp] theorem State.modErrors_tx (s : State) (f : LinkErrors → LinkErrors) :
    (s.modErrors f).tx = s.tx := rfl
@[simp] theorem State.modErrors_dnPointer (s : State) (f : LinkErrors → LinkErrors) :
    (s.modErrors f).dnPointer = s.dnPointer := rfl
@[simp] theorem State.modErrors_dnSending (s : State) (f : LinkErrors → LinkErrors) :
    (s.modErrors f).dnSending = s.dnSending := rfl
@[simp] theorem State.modErrors_mgmt (s : State) (f : LinkErrors → LinkErrors) :
    (s.modErrors f).mgmt = s.mgmt := rfl
@[simp] theorem State.modErrors_pending (s : State) (f : LinkErrors → LinkErrors) :
    (s.modErrors f).pending = s.pending := rfl
@[simp] theorem State.modErrors_duringRestart (s : State) (f : LinkErrors → LinkErrors) :
    (s.modErrors f).duringRestart = s.duringRestart := rfl
@[simp] theorem State.modErrors_ch (s : State) (f : LinkErrors → LinkErrors) (d : ChannelNo) :
    (s.modErrors f).ch d = s.ch d := rfl
@[simp] theorem State.modErrors_rxOf (s : State) (f : LinkErrors → LinkErrors) (d : ChannelNo) :
    (s.modErrors f).rxOf d = s.rxOf d := rfl
@[simp] theorem State.modErrors_txOf (s : State) (f : LinkErrors → LinkErrors) (d : ChannelNo) :
    (s.modErrors f).txOf d = s.txOf d := rfl
@[simp] theorem State.modErrors_isData (s : State) (f : LinkErrors → LinkErrors) (d : ChannelNo) :
    (s.modErrors f).isData d = s.isData d := rfl

/-! ### endTurn -/

@[simp] theorem State.endTurn_straps (s : State) :
    (s.endTurn).straps = s.straps := rfl
@[simp] theorem State.endTurn_upPort (s : State) :
    (s.endTurn).upPort = s.upPort := rfl
@[simp] theorem State.endTurn_dnPort (s : State) :
    (s.endTurn).dnPort = s.dnPort := rfl
@[simp] theorem State.endTurn_linkErrors (s : State) :
    (s.endTurn).linkErrors = s.linkErrors := rfl
@[simp] theorem State.endTurn_rx (s : State) :
    (s.endTurn).rx = s.rx := rfl
@[simp] theorem State.endTurn_table (s : State) :
    (s.endTurn).table = s.table := rfl
@[simp] theorem State.endTurn_pointer (s : State) :
    (s.endTurn).pointer = s.pointer := rfl
@[simp] theorem State.endTurn_turn (s : State) : (s.endTurn).turn = none := rfl
@[simp] theorem State.endTurn_spill (s : State) :
    (s.endTurn).spill = s.spill := rfl
@[simp] theorem State.endTurn_policy (s : State) :
    (s.endTurn).policy = s.policy := rfl
@[simp] theorem State.endTurn_counters (s : State) :
    (s.endTurn).counters = s.counters := rfl
@[simp] theorem State.endTurn_tx (s : State) :
    (s.endTurn).tx = s.tx := rfl
@[simp] theorem State.endTurn_dnPointer (s : State) :
    (s.endTurn).dnPointer = s.dnPointer := rfl
@[simp] theorem State.endTurn_dnSending (s : State) :
    (s.endTurn).dnSending = s.dnSending := rfl
@[simp] theorem State.endTurn_mgmt (s : State) :
    (s.endTurn).mgmt = s.mgmt := rfl
@[simp] theorem State.endTurn_pending (s : State) :
    (s.endTurn).pending = s.pending := rfl
@[simp] theorem State.endTurn_duringRestart (s : State) :
    (s.endTurn).duringRestart = s.duringRestart := rfl
@[simp] theorem State.endTurn_ch (s : State) (d : ChannelNo) :
    (s.endTurn).ch d = s.ch d := rfl
@[simp] theorem State.endTurn_rxOf (s : State) (d : ChannelNo) :
    (s.endTurn).rxOf d = s.rxOf d := rfl
@[simp] theorem State.endTurn_txOf (s : State) (d : ChannelNo) :
    (s.endTurn).txOf d = s.txOf d := rfl
@[simp] theorem State.endTurn_isData (s : State) (d : ChannelNo) :
    (s.endTurn).isData d = s.isData d := rfl

end Sys2Proof.Machine
end

