-- ==== Sys2Proof/Safety.lean ====
section
/-! DEFINITION. What the statements about this machine speak of: the properties a step keeps, and the plain readings of
eligibility and of the round-robin orders. -/

namespace Sys2Proof.Machine

/-! ### Properties every step keeps -/

/-- Credit outstanding plus occupied ingress slots never exceed 4, on every channel (R132). -/
def State.SlotsOk (s : State) : Prop := ∀ c, (s.rxOf c).credit + (s.rxOf c).occupied ≤ 4

/-- A scope entry that a channel holds: resident, waiting to be pushed, or being closed. -/
def Channel.Holds (ch : Channel) (e : ScopeEntry) : Prop :=
  e ∈ ch.resident ∨ (∃ p, ch.pendingPush = some p ∧ p.entry = e) ∨ ch.parse = .closePending e

/-- Recorded arguments have the lengths of their types (R143). -/
def CommandRecord.ArgsOk (r : CommandRecord) : Prop := ∀ a ∈ r.args, argLength a.type = some a.value.length

/-- The counts that saturate, the credits, the notice queue, the failure count, and the stall timers with their reloads, stay
in their ranges; so do the arguments a reload is written from. -/
structure State.CountsOk (s : State) : Prop where
  /-- R129. -/
  errors : s.linkErrors.crc ≤ 65535 ∧ s.linkErrors.badHeader ≤ 65535 ∧ s.linkErrors.overrun ≤ 65535
  /-- R28. -/
  stats : ∀ c, (s.ch c).stats.completed ≤ 65535 ∧ (s.ch c).stats.aborted ≤ 65535 ∧ (s.ch c).stats.faults ≤ 65535 ∧
    (s.ch c).stats.degrades ≤ 65535
  /-- R54. -/
  consumed : ∀ c e, (s.ch c).Holds e → e.consumed ≤ 16777215
  /-- R13, R16, R30. -/
  timers : ∀ c, (s.ch c).config.stallReload ≤ 65535 ∧ (s.ch c).stallTimer ≤ 65535
  /-- R133. -/
  downstream : ∀ c, (s.txOf c).credits ≤ 8
  returnPath : s.mgmt.credits ≤ 4
  /-- R162. -/
  notices : s.mgmt.notices.length ≤ 32 ∧ s.mgmt.lost ≤ 255
  /-- R13, R32. -/
  mgmtTimer : s.mgmt.stallReload ≤ 65535 ∧ s.mgmt.stallTimer ≤ 65535
  /-- R8, R143. -/
  collected : ∀ sc ∈ s.mgmt.collector.scopes, sc.consumed ≤ 16777215
  /-- R143: the arguments recorded, and the one being collected. -/
  arguments : s.mgmt.collector.command.ArgsOk ∧ (∀ r, s.mgmt.unit = .executing (.ready r) → r.ArgsOk) ∧
    ∀ t left v, s.mgmt.collector.pos = .argument t left v → 0 < left ∧ argLength t = some (left + v.length)
  /-- R94. -/
  failures : s.spill.failures ≤ 2
  /-- R119. -/
  pairs : ∀ i : Fin 256, s.counters[i].records ≤ 4294967295 ∧ s.counters[i].bytes ≤ 281474976710655

/-- A bank holds at most 1024 entries in strictly ascending order of key, set first and type second (R104). -/
def Bank.Ordered (b : Bank) : Prop :=
  b.entries.length ≤ 1024 ∧
    b.entries.Pairwise fun e f => e.set < f.set ∨ (e.set = f.set ∧ e.type.toNat < f.type.toNat)

def State.PolicyOk (s : State) : Prop := s.policy.bankA.Ordered ∧ s.policy.bankB.Ordered

/-- How many channels have a message bound to a bank. -/
def State.boundTo (s : State) (n : BankName) : Nat :=
  allChannels.countP fun c => (s.ch c).bound.map Binding.bank == some n

/-- A channel is bound exactly while a message is open on it; a bank's reference count is the number of channels bound to
it, and so at most 15; the staging bank has references exactly while it is DRAINING (R106, R107). -/
structure State.ReferencesOk (s : State) : Prop where
  bound : ∀ c, (s.ch c).bound.isSome = (s.ch c).state.messageOpen
  /-- The management channel has no bound bank (R13). -/
  management : (s.ch s.straps.mgmtSel).bound = none
  counts : ∀ n, (s.policy.bank n).refs = s.boundTo n
  limit : ∀ n, (s.policy.bank n).refs ≤ 15
  staging : s.policy.staging = .draining ↔ 0 < (s.policy.bank s.policy.stagingBank).refs

/-- A job of kind spill whose channel waits for it, with a full window (R76); or of kind fill whose channel waits for it, with
an empty one (R80). -/
def Channel.Awaits (ch : Channel) (j : Job) : Prop :=
  j.count = ch.config.windowSize / 2 ∧
    ((j.kind = .spill ∧ ch.state = .spillWait ∧ 0 < ch.config.windowSize ∧ ch.resident.length = ch.config.windowSize ∧
        j.start = ch.spilled) ∨
      (j.kind = .fill ∧ ch.state = .fillWait ∧ ch.resident = [] ∧ ch.pendingPush = none ∧ j.start + j.count = ch.spilled))

/-- The job in flight, if the transfer is a job's. -/
def SpillPort.flying (p : SpillPort) : List Job :=
  match p.inFlight with
  | some (.data j _) => [j]
  | some (.probe _ _) | none => []

/-- The scope stacks (R16, R71 to R82): the resident count lies within the window, the depth with a pending push within the
maximum, the spilled count is a multiple of half the window, and a channel without an open message has no scope. Each job
belongs to a channel of its own that waits for it, or that drains while it is in flight. -/
structure State.StacksOk (s : State) : Prop where
  /-- Figure 2-1. -/
  config : ∀ c, (s.ch c).config.windowSize ∈ [0, 2, 4, 8, 16] ∧ 1 ≤ (s.ch c).config.maxDepth ∧ (s.ch c).config.maxDepth ≤ 64
  /-- R71. -/
  window : ∀ c, (s.ch c).resident.length ≤ (s.ch c).config.windowSize
  /-- R16, R72. -/
  depth : ∀ c, (s.ch c).resident.length + (s.ch c).spilled + (if (s.ch c).pendingPush = none then 0 else 1) ≤
    (s.ch c).config.maxDepth
  /-- R77. -/
  spilled : ∀ c, (s.ch c).config.windowSize / 2 ∣ (s.ch c).spilled
  /-- R24. -/
  closed : ∀ c, (s.ch c).state.messageOpen = false →
    (s.ch c).resident = [] ∧ (s.ch c).spilled = 0 ∧ (s.ch c).pendingPush = none
  /-- R49, R78. -/
  pushes : ∀ c p, (s.ch c).pendingPush = some p → (s.ch c).state = .spillWait ∨
    ((s.ch c).state = .inMessage ∧ (p.refused = true ∨ (s.ch c).resident.length < (s.ch c).config.windowSize))
  /-- R76, R79, R80. -/
  queued : ∀ j ∈ s.spill.queue, (s.ch j.channel).Awaits j
  flying : ∀ j ∈ s.spill.flying, (s.ch j.channel).state = .drain ∨ (s.ch j.channel).Awaits j
  once : ((s.spill.flying ++ s.spill.queue).map Job.channel).Nodup
  /-- R15, R166. -/
  provisioning : s.mgmt.phase = .provisioning → ∀ c, (s.ch c).state = .held ∨ (s.ch c).state = .disabled
  /-- R13: the entry at the management channel's number is never used (log 25). -/
  management : (s.ch s.straps.mgmtSel).state = .held

/-- An egress buffer holds at most 7 ordinary segments and at most 1 terminal segment, and the assembler fewer than 64
bytes; while a message that has output is open, no terminal segment waits (R134, R135). -/
def State.EgressOk (s : State) : Prop :=
  ∀ c, (s.txOf c).ordinaryCount ≤ 7 ∧ ((s.txOf c).egress.filter EgressSegment.terminal).length ≤ 1 ∧
    (s.txOf c).pendingBytes.length < 64 ∧
    ((s.ch c).state.messageOpen = true → (s.ch c).outputStarted = true → (s.txOf c).terminalWaiting = false)

/-! ### Plain readings -/

/-- A data channel is eligible for a turn (R36). -/
def State.Eligible (s : State) (c : ChannelNo) : Prop :=
  c ≠ s.straps.mgmtSel ∧
    (((s.ch c).state = .await ∧ (s.rxOf c).ingress ≠ []) ∨
      ((s.ch c).state = .inMessage ∧ (s.ch c).egressBlocked = false ∧
        ((s.rxOf c).ingress ≠ [] ∨ (s.rxOf c).inUse ≠ none ∨ (∃ e, (s.ch c).parse = .closePending e) ∨
          (s.ch c).pendingPush ≠ none ∨ (s.ch c).owedClose = true)))

/-- `c` is the first channel with `P` counting upward from the one after `p`, wrapping, with `p` itself last (R37, R136). -/
def FirstAfter (p : ChannelNo) (P : ChannelNo → Prop) (c : ChannelNo) : Prop :=
  P c ∧ ∀ d, P d → (c - p - 1).val ≤ (d - p - 1).val

/-- The data channels with an open message that a link event faults, in ascending order (R33). -/
def State.linkFaulting (s : State) (who : Channel → Bool) : List ChannelNo :=
  allChannels.filter fun c => decide (c ≠ s.straps.mgmtSel) && (s.ch c).state.messageOpen && who (s.ch c)

/-- A channel is allowed to receive: the management channel always, a data channel while it is enabled and the part is
OPERATING (R132). -/
def State.Receives (s : State) (c : ChannelNo) : Prop :=
  c = s.straps.mgmtSel ∨ ((s.ch c).config.enabled = true ∧ s.mgmt.phase = .operating)

/-- No channel has a grant due (R132). -/
def State.NoGrantDue (s : State) : Prop := ∀ c, s.Receives c → 4 ≤ (s.rxOf c).credit + (s.rxOf c).occupied

/-- A data channel's stall timer runs (R30); a timer loaded with 0 does not run (log 11). -/
def State.TimerRuns (s : State) (c : ChannelNo) : Prop :=
  c ≠ s.straps.mgmtSel ∧ (s.ch c).state = .inMessage ∧ (s.rxOf c).ingress = [] ∧ (s.rxOf c).inUse = none ∧
    (∀ e, (s.ch c).parse ≠ .closePending e) ∧ (s.ch c).egressBlocked = false ∧ (s.ch c).pendingPush = none ∧
    ¬((s.ch c).parse = .header [] ∧ ∃ e, (s.ch c).resident.getLast? = some e ∧ e.mode = .definite 0) ∧
    (s.ch c).stallArmed = true

/-- The management stall timer runs (R32, log 11). -/
def State.MgmtTimerRuns (s : State) : Prop :=
  s.mgmt.unit = .collecting ∧ (s.rxOf s.straps.mgmtSel).ingress = [] ∧ (s.rxOf s.straps.mgmtSel).inUse = none ∧
    s.mgmt.stallArmed = true

/-- The state after the management message is closed, with its partial command dropped (R141, R142, R144). -/
def State.MgmtClosed (s : State) : State :=
  { s with
    rx := s.rx.set s.straps.mgmtSel { s.rxOf s.straps.mgmtSel with inUse := none }
    mgmt := { s.mgmt with unit := .idle, messageOpen := false, collector := Collector.empty } }

/-- The bytes of a management command with these arguments: a definite container of leaves. -/
def commandBytes (code : RecType) (args : List Arg) : List Byte :=
  containerBytes code (args.flatMap fun a => leafBytes a.type a.value)

/-- The legal payloads of a segment with these flags (R127). -/
def LegalSegment (eom abort : Bool) (payload : List Byte) : Prop :=
  payload.length ≤ 64 ∧ (payload = [] → eom = true ∨ abort = true) ∧ (abort = true → payload = [])

/-- The management unit holds a completed command record of this code whose checks of R145 pass. -/
def State.Carries (s : State) (code : RecType) (required optional : List RecType) (r : CommandRecord) : Prop :=
  s.mgmt.unit = .executing (.ready r) ∧ r.isContainer = true ∧ r.code = code ∧ r.check required optional = none

/-- The state with a response formed (R146). -/
def State.Responded (s : State) (bytes : List Byte) : State :=
  { s with mgmt := { s.mgmt with unit := .responding, response := some bytes } }

/-- The state as a turn's step begins it: the pointer moves when the step begins a turn (R35, R37). -/
def State.Stepping (s : State) (c : ChannelNo) : State :=
  if s.turnGoesOn = none then { s with turn := some c, pointer := c } else s

/-! ### Readings of the engine's rules -/

/-- The innermost scope is a definite one owed its close (R55). -/
def Channel.OwesClose (ch : Channel) : Prop :=
  ch.parse = .header [] ∧ ch.pendingPush = none ∧ ∃ e, ch.resident.getLast? = some e ∧ e.mode = .definite 0

/-- A message can end cleanly (R11). -/
def Channel.EndsCleanly (ch : Channel) : Prop :=
  ch.resident = [] ∧ ch.spilled = 0 ∧ ch.parse = .header [] ∧ ch.outputDepth = 0

/-- A unit of `n` bytes may be handed to the assembler (R63). -/
def TxChannel.Room (t : TxChannel) (started : Bool) (n : Nat) : Prop :=
  (started = true ∨ ∀ g ∈ t.egress, g.eom = false ∧ g.abort = false) ∧
    (t.pendingBytes.length + n < 64 ∨ (t.egress.filter fun g => !g.eom && !g.abort).length < 7)

/-- The channel has egress room for a unit of `n` bytes (R63). -/
def State.Room (s : State) (c : ChannelNo) (n : Nat) : Prop := (s.txOf c).Room (s.ch c).outputStarted n

/-- The bytes handed for a channel and not yet sent, in their order. -/
def TxChannel.stream (t : TxChannel) : List Byte := t.egress.flatMap EgressSegment.payload ++ t.pendingBytes

/-- The counter pairs after an increment request (R119, R120). -/
def State.Counted (s : State) (index : Option (Fin 256)) (records bytes : Nat) : Vector CounterPair 256 :=
  match index with
  | none => s.counters
  | some i => s.counters.set i
      { records := min 4294967295 (s.counters[i].records + records)
        bytes := min 281474976710655 (s.counters[i].bytes + bytes) }

/-- The transmitter records after a header is emitted for a channel, if one is. -/
def State.Emitted (s : State) (c : ChannelNo) (h : Option Header) : Vector TxChannel 16 :=
  match h with
  | none => s.tx
  | some h => s.tx.set c ((s.txOf c).hand h.toBytes)

/-- The engine, serving `c`, takes the byte that completes the header `h`: `got` was collected before, `taken` and then `b`
come from the segment in use, and `rest` is left. -/
def State.HeaderDue (s : State) (c : ChannelNo) (got taken : List Byte) (b : Byte) (rest : List Byte) (eom : Bool)
    (h : Header) : Prop :=
  s.servedFor .completeHeader = some c ∧ (s.ch c).parse = .header got ∧
    (s.rxOf c).inUse = some { rest := taken ++ b :: rest, eom := eom } ∧ Header.ofList (got ++ taken ++ [b]) = some h

/-- The turn's step begun, with the four header bytes taken. -/
def State.HeaderTaken (s : State) (c : ChannelNo) (rest : List Byte) (eom : Bool) : State :=
  { s.Stepping c with
    rx := s.rx.set c { s.rxOf c with inUse := some { rest := rest, eom := eom } }
    table := s.table.set c { s.ch c with parse := .header [] } }

/-- The step not taken for want of egress room: three header bytes are collected, the fourth stays untaken, the channel is
egress-blocked and the turn ends (R41, R63). -/
def State.HeaderWaits (s : State) (c : ChannelNo) (three : List Byte) (b : Byte) (rest : List Byte) (eom : Bool) : State :=
  { s.Stepping c with
    turn := none
    rx := s.rx.set c { s.rxOf c with inUse := some { rest := b :: rest, eom := eom } }
    table := s.table.set c { s.ch c with parse := .header three, egressBlocked := true } }

/-- Another step not taken for want of egress room (R63). -/
def State.StepWaits (s : State) (c : ChannelNo) : State :=
  { s.Stepping c with turn := none, table := s.table.set c { s.ch c with egressBlocked := true } }

/-- How a record is handled where its header completes: by the policy at depth 0 and inside a FILTER scope, and else by the
scope's disposition (R41 step 4); with the flag L and the count index it gets. -/
def State.Handled (s : State) (c : ChannelNo) (h : Header) (x : Handling) (looked : Bool) (index : Option (Fin 256)) :
    Prop :=
  (∀ v, s.lookupFor c h.type = v →
    ((s.ch c).resident = [] ∨ ∃ e, (s.ch c).resident.getLast? = some e ∧ e.disposition = .filter) →
    x = actionHandling h (v.remap.getD h.type) v.action ∧ looked = true ∧ index = v.countIndex) ∧
  ∀ e, (s.ch c).resident.getLast? = some e →
    (e.disposition = .verbatim → x = verbatimHandling h ∧ looked = false ∧ index = none) ∧
    (e.disposition = .discard → x = discardHandling h ∧ looked = false ∧ index = none)

/-- A header that passes the tests of R5 and, inside a definite scope, of R7, and is no End record. -/
def State.Admits (s : State) (c : ChannelNo) (h : Header) : Prop :=
  headerFault h = none ∧ h.isEnd = false ∧
    ∀ e, (s.ch c).resident.getLast? = some e → e.mode.deductChild h ≠ none

/-- The resident scopes after the innermost one is charged for the child `h` (R7) and `n` bytes are accounted to it (R54). -/
def Channel.charged (ch : Channel) (h : Header) (n : Nat) : List ScopeEntry :=
  (ch.modInnermost fun e =>
    { e with mode := (e.mode.deductChild h).getD e.mode, consumed := min 16777215 (e.consumed + n) }).resident

/-- The resident scopes after the innermost one is charged for the header of a child that opens a scope (R7). -/
def Channel.deducted (ch : Channel) (h : Header) : List ScopeEntry :=
  (ch.modInnermost fun e => { e with mode := (e.mode.deductChild h).getD e.mode }).resident

/-- The state after a scope is pushed and its header emitted (R48). -/
def State.Pushed (s : State) (c : ChannelNo) (p : PendingPush) : State :=
  { s with
    tx := s.Emitted c p.emit
    table := s.table.set c { s.ch c with
      outputStarted := (s.ch c).outputStarted || p.emit.isSome
      resident := (s.ch c).resident ++ [p.entry]
      outputDepth := (s.ch c).outputDepth + (if p.entry.disposition = .filter then 1 else 0)
      pendingPush := none
      parse := .header [] } }

/-- The state after a container of `n` payload bytes is carried out as PASS because its scope cannot open; `type` is its type
as emitted (R50, R74). -/
def State.Degraded (s : State) (c : ChannelNo) (p : PendingPush) (type : RecType) (n : Nat) (k : FaultKind) : State :=
  { s with
    tx := s.tx.set c ((s.txOf c).hand (Header.make .container type (BitVec.ofNat 16 n)).toBytes)
    mgmt :=
      if (s.ch c).degradedThisMessage = true then s.mgmt
      else (s.queueNotice (.degraded c (s.ch c).ordinal p.entry.type k)).mgmt
    table := s.table.set c { s.ch c with
      outputStarted := true
      stats := { (s.ch c).stats with degrades := min 65535 ((s.ch c).stats.degrades + 1) }
      degradedThisMessage := true
      resident := ((s.ch c).modInnermost fun e => { e with consumed := min 16777215 (e.consumed + (4 + n)) }).resident
      parse := if n = 0 then .header [] else .copy n 0
      pendingPush := none } }

/-- What a close begun leaves: `u` is the state with the scope `e` popped, and `waits` the one of a close not begun (R56,
R80, R81). -/
def ClosesTo (out waits u : State) (c : ChannelNo) (e : ScopeEntry) : Prop :=
  let w := (u.ch c).config.windowSize / 2
  ((u.ch c).resident = [] → 0 < (u.ch c).spilled →
    ((u.ch c).spillInvalid = false → (u.spill.backing = .ready ∨ u.spill.backing = .suspect) → out =
      { u with
        turn := none
        spill := { u.spill with
          queue := u.spill.queue ++ [{ channel := c, kind := .fill, count := w, start := (u.ch c).spilled - w }] }
        table := u.table.set c { u.ch c with state := .fillWait, parse := .closePending e } }) ∧
    ((u.ch c).spillInvalid = true ∨ (u.spill.backing ≠ .ready ∧ u.spill.backing ≠ .suspect) →
      out = (u.fault c .noBacking .none true).endTurn)) ∧
  ((u.ch c).resident ≠ [] ∨ (u.ch c).spilled = 0 →
    (e.disposition = .discard ∨ u.Room c 4 → out = u.finishClose c e) ∧
    (e.disposition ≠ .discard → ¬ u.Room c 4 → out = waits))

/-- A close that its definite parent has no bytes left for (R8, R57). -/
def Channel.ClosesLate (ch : Channel) (e : ScopeEntry) : Prop :=
  ∃ p r, ch.resident.getLast? = some p ∧ p.mode = .definite r ∧ e.mode = .indefinite ∧ r < 4 + e.consumed + 4

/-! ### Readings of the commands' rules -/

/-- The management commands with their codes and the arguments each requires and takes beyond TAG (Figure 9-3, R147 to
R160). -/
def commandTable : List (Instr × RecType × List RecType × List RecType) :=
  [(.identify, 0xF01, [], []), (.status, 0xF02, [], [Leaf.clear]),
    (.channelSet, 0xF03, [Leaf.channel],
      [Leaf.enabled, Leaf.policySet, Leaf.windowSize, Leaf.maxDepth, Leaf.stallReload]),
    (.channelGet, 0xF04, [Leaf.channel], []), (.channelReset, 0xF05, [Leaf.channel], []),
    (.policyInsert, 0xF06, [Leaf.set, Leaf.type, Leaf.action], [Leaf.remap, Leaf.countIndex, Leaf.limit]),
    (.policyDelete, 0xF07, [Leaf.set, Leaf.type], [])] ++
  [(.policyRead, 0xF08, [Leaf.role], [Leaf.set, Leaf.type, Leaf.position]),
    (.defaultSet, 0xF09, [Leaf.set, Leaf.action], []), (.commit, 0xF0A, [], []),
    (.countersRead, 0xF0B, [Leaf.firstIndex, Leaf.count], [Leaf.clear]), (.backingRestore, 0xF0C, [], []),
    (.provisionClose, 0xF0D, [], []), (.restart, 0xF0E, [], [])]

/-- The state with its response formed for a command record: OK or another completion, and the result leaves (R146). -/
def State.Answers (s : State) (r : CommandRecord) (result : Completion) (leaves : List Byte) : State :=
  s.Responded (responseBytes (r.code - 0x100) r.tag result leaves)

/-- A command makes the checks of R145 first: its form, then the arguments it requires and takes beyond TAG. -/
def ChecksFirst (command : Instr) (code : RecType) (required optional : List RecType) : Prop :=
  ∀ (s : State) (r : CommandRecord) (e : Completion), s.mgmt.unit = .executing (.ready r) → r.isContainer = true →
    r.code = code → r.check required optional = some e → exec command s = .next (s.Answers r e [])

/-- The state with the staging bank's contents replaced. -/
def State.Staged (s : State) (b : Bank) : State :=
  { s with policy := s.policy.setBank s.policy.stagingBank b }

/-- The bytes of a STATE leaf: the channel state and the drain exit (Figure 9-1). -/
def Channel.StateBytes (ch : Channel) : List Byte :=
  [0, 0x40, 0, 2, BitVec.ofNat 8 ch.state.code, BitVec.ofNat 8 ch.drainExit.code]

/-- The state after a channel in DRAIN takes its exit: a CHANNEL RESET that waits for it is answered (R25, R151). -/
def LeavesDrain (out s : State) (c : ChannelNo) : Prop :=
  let v := { s with table := s.table.set c { s.ch c with
    state := match (s.ch c).drainExit with
      | .await => .await
      | .disabled => .disabled } }
  (∀ tag, s.mgmt.unit = .executing (.channelReset tag c) →
    out = v.Responded (responseBytes 0xE05 tag .ok (v.ch c).StateBytes)) ∧
  ((∀ tag, s.mgmt.unit ≠ .executing (.channelReset tag c)) → out = v)

/-- The state after the part is opened to traffic (R170). -/
def State.Opened (s : State) (tag : Option (List Byte)) : State :=
  let opens : ChannelNo → Bool := fun c =>
    decide (c ≠ s.straps.mgmtSel ∧ (s.ch c).config.enabled = true ∧ (s.ch c).state = .held)
  { s with
    table := Vector.ofFn fun c => if opens c then { s.ch c with state := .await } else s.ch c
    rx := Vector.ofFn fun c => if opens c then { s.rxOf c with unsync := true } else s.rxOf c
    mgmt := { s.mgmt with
      phase := .operating
      unit := .responding
      response := some (responseBytes 0xE0D tag .ok (numLeaf Leaf.backing 1 s.spill.backing.code)) } }

/-- The lane can begin a return-path message (R132, R137, R163). -/
def State.LaneCanBegin (s : State) : Prop :=
  s.upPort = .up ∧ s.mgmt.returnMsg = none ∧ s.NoGrantDue ∧ 0 < s.mgmt.credits

/-- The state after a notice is begun with its only segment (R137, R162). -/
def State.NoticeBegun (s : State) (n : Notice) (later : List Notice) : State :=
  { s with mgmt := { s.mgmt with
      notices := later
      credits := s.mgmt.credits - 1
      seq := s.mgmt.seq + 1
      returnUnit := some (.segment (encodeSegment s.straps.mgmtSel s.mgmt.seq true true false (n.toBytes s.mgmt.lost)))
      returnMsg := some { kind := .notice s.mgmt.lost, rest := [] } } }

/-- What a probe's outcome is handed to: the command that waits for it, which lets the oldest notice go first where the lane
can begin it (R163, R170, log 30), or none (R96, R158, R169). -/
def ProbeHandedOn (out s : State) : Prop :=
  (∃ v : State,
    (∀ n later, s.LaneCanBegin → s.mgmt.notices = n :: later → v = s.NoticeBegun n later) ∧
    (¬ s.LaneCanBegin ∨ s.mgmt.notices = [] → v = s) ∧
    (∀ tag, s.mgmt.unit = .executing (.backingRestore tag) → out = v.Responded
      (responseBytes 0xE0C tag .ok
        (numLeaf Leaf.backing 1 s.spill.backing.code ++ numLeaf Leaf.failures 1 s.spill.failures))) ∧
    ∀ tag, s.mgmt.unit = .executing (.provisionClose tag) → out = v.Opened tag) ∧
  ((∀ tag, s.mgmt.unit ≠ .executing (.backingRestore tag) ∧ s.mgmt.unit ≠ .executing (.provisionClose tag)) → out = s)

/-- The window the allocation gives a channel: a data channel with a window size above 0 gets the entries after the windows of
the lower-numbered data channels (R69). -/
def State.AllocatedBase (s : State) (c : ChannelNo) : Option Nat :=
  if c ≠ s.straps.mgmtSel ∧ 0 < (s.ch c).config.windowSize then
    some ((allChannels.filter fun d => decide (d < c) && d != s.straps.mgmtSel).map fun d => (s.ch d).config.windowSize).sum
  else none

/-- The window sizes of the data channels summed (R168). -/
def State.WindowTotal (s : State) : Nat :=
  ((allChannels.filter fun d => d != s.straps.mgmtSel).map fun d => (s.ch d).config.windowSize).sum

/-- SDI over a select period carries these data bytes: bit n of the period stands on the wires at its levels 2n and 2n+1, SCK
rises between them, and the data follow the 24 bits of the command and the address, most significant bit first; the other
levels are free (R87, R88). -/
def SelectPeriod.Hears (p : SelectPeriod) (sdi : List Bool) (read : List Byte) : Prop :=
  sdi.length = p.levels.length ∧ read.length = p.dataCount ∧
    ∀ (i : Fin read.length) (j : Fin 8), sdi[2 * (24 + 8 * i.val + j.val) + 1]? = some (read[i].getLsbD (7 - j.val))

/-- A scope entry whose fields are in their ranges (Figure 4-1): a definite one is a FILTER scope. -/
def ScopeEntry.Legal (e : ScopeEntry) : Prop :=
  e.type ≠ 0 ∧ e.consumed ≤ 16777215 ∧ ∀ r, e.mode = .definite r → e.disposition = .filter ∧ r ≤ 65534

/-- The unit holds a completed command record of this code, not yet carried out (R141). -/
def State.Executes (s : State) (code : RecType) : Prop :=
  ∃ r, s.mgmt.unit = .executing (.ready r) ∧ r.isContainer = true ∧ r.code = code

/-- The engine serves a channel and takes this step there (R38). -/
def State.Serves (s : State) (k : EngineStep) : Prop := ∃ c, s.servedFor k = some c

/-- The event that a command stands for can occur in this state, as its rule has it. -/
def State.Occurs (s : State) : Instr → Prop
  | .powerOnReset _ | .timebaseTick | .downstreamSegmentDiscard _ => True
  | .upstreamLinkDown | .segmentReceived _ => s.upPort = .up
  | .upstreamLinkUp => s.upPort = .down
  | .downstreamLinkDown => s.dnPort = .up
  | .downstreamLinkUp => s.dnPort = .down
  | .creditWordReceived port _ => s.portState port = .up
  | .creditWordGrant => s.upPort = .up ∧ (∀ m, s.mgmt.returnMsg = some m → m.rest ≠ []) ∧ ¬ s.NoGrantDue
  | .stall c => s.TimerRuns c ∧ (s.ch c).stallTimer = 0
  | .mgmtStallExpiry => s.MgmtTimerRuns ∧ s.mgmt.stallTimer = 0
  | .awaitTakeSegment => s.Serves .awaitTake
  | .takeSegmentFlags => s.Serves .takeFlags
  | .completeHeader => s.Serves .completeHeader
  | .takePayloadRun => s.Serves .payloadRun
  | .beginClose => s.Serves .beginClose
  | .completeClose => s.Serves .completeClose
  | .carryOutPendingPush => s.Serves .carryOutPush
  | .degradePendingPush => s.Serves .degradePush
  | .takeJob => s.spill.inFlight = none ∧ s.spill.backing ≠ .absent ∧ (s.spill.pendingProbe = true ∨ s.spill.queue ≠ [])
  | .spillCompletion => ∃ j p, s.spill.inFlight = some (.data j p) ∧ j.kind = .spill
  | .fillCompletion sdi => ∃ j p, s.spill.inFlight = some (.data j p) ∧ j.kind = .fill ∧ sdi.length = p.levels.length
  | .probeCompletion sdi => ∃ w r, s.spill.inFlight = some (.probe w r) ∧ sdi.length = w.levels.length + r.levels.length
  | .downstreamSegmentSend => s.dnPort = .up ∧ s.dnSending = none ∧
      ∃ c, c ≠ s.straps.mgmtSel ∧ (s.txOf c).egress ≠ [] ∧ 0 < (s.txOf c).credits
  | .downstreamSegmentSent => s.dnSending ≠ none
  | .returnMessageBegin => s.LaneCanBegin ∧ ((s.mgmt.unit = .responding ∧ s.mgmt.response ≠ none) ∨ s.mgmt.notices ≠ [])
  | .returnSegmentSend => s.upPort = .up ∧ s.NoGrantDue ∧ 0 < s.mgmt.credits ∧
      ∃ m, s.mgmt.returnMsg = some m ∧ m.rest ≠ []
  | .responseSent => s.mgmt.returnMsg = some { kind := .response, rest := [] }
  | .noticeSent => ∃ carried, s.mgmt.returnMsg = some { kind := .notice carried, rest := [] }
  | .mgmtTakeSegment => (s.mgmt.unit = .idle ∨ s.mgmt.unit = .collecting) ∧
      (s.rxOf s.straps.mgmtSel).inUse = none ∧ (s.rxOf s.straps.mgmtSel).ingress ≠ []
  | .mgmtParseBytes => s.mgmt.unit = .collecting ∧ (s.rxOf s.straps.mgmtSel).inUse ≠ none
  | .unknownCommand => ∃ r, s.mgmt.unit = .executing (.ready r) ∧
      (r.isContainer = false ∨ r.code.toNat < 0xF01 ∨ 0xF0E < r.code.toNat)
  | .identify => s.Executes 0xF01
  | .status => s.Executes 0xF02
  | .channelSet => s.Executes 0xF03
  | .channelGet => s.Executes 0xF04
  | .channelReset => s.Executes 0xF05
  | .policyInsert => s.Executes 0xF06
  | .policyDelete => s.Executes 0xF07
  | .policyRead => s.Executes 0xF08
  | .defaultSet => s.Executes 0xF09
  | .commit => s.Executes 0xF0A
  | .countersRead => s.Executes 0xF0B
  | .pairRead => ∃ tag next left clear leaves, s.mgmt.unit = .executing (.countersRead tag next left clear leaves)
  | .backingRestore => s.Executes 0xF0C
  | .provisionClose => s.Executes 0xF0D
  | .restart => s.Executes 0xF0E
  | .copyCompletion => s.policy.staging = .copying

/-- What carrying out commands one after another leaves. -/
def CarriedOut : List Instr → State → State → Prop
  | [], s, t => t = s
  | c :: cs, s, t => ∃ u, exec c s = .next u ∧ CarriedOut cs u t

/-! ### Command records as the management stream carries them (R143) -/

/-- A record inside a nested container: a leaf, or a definite container. -/
structure InnerRecord where
  form : Form
  type : RecType
  payload : List Byte

/-- A record inside a command: a leaf, a definite container, or an indefinite container with its children. -/
inductive Item where
  | leaf (type : RecType) (payload : List Byte)
  | definite (type : RecType) (payload : List Byte)
  | indefinite (type : RecType) (children : List InnerRecord)

/-- A type and a length that a leaf or a definite container can have (R1 to R5). -/
def LegalRecord (type : RecType) (payload : List Byte) : Prop := type ≠ 0 ∧ payload.length ≤ 65534

def Item.Legal : Item → Prop
  | .leaf type payload | .definite type payload => LegalRecord type payload
  | .indefinite type children => type ≠ 0 ∧ ∀ r ∈ children, LegalRecord r.type r.payload

def InnerRecord.bytes (r : InnerRecord) : List Byte :=
  (Header.make r.form r.type (BitVec.ofNat 16 r.payload.length)).toBytes ++ r.payload

def Item.bytes : Item → List Byte
  | .leaf type payload => leafBytes type payload
  | .definite type payload => containerBytes type payload
  | .indefinite type children =>
    (Header.make .container type 0xFFFF).toBytes ++ children.flatMap InnerRecord.bytes ++ [0, 0, 0, 0]

/-- What a record inside a command adds: an argument of its type's length is recorded once and noted as a duplicate after
that, another length, another leaf and a container are noted (R143). -/
def Item.noted (r : CommandRecord) : Item → CommandRecord
  | .leaf type payload =>
    match argLength type with
    | none => { r with foreign := r.foreign ++ [type] }
    | some n =>
      if payload.length ≠ n then { r with wrongLength := true }
      else if r.arg type = none then { r with args := r.args ++ [{ type := type, value := payload }] }
      else { r with duplicates := r.duplicates ++ [type] }
  | .definite _ _ | .indefinite _ _ => { r with nested := true }

/-- A command record in the stream: a container, definite or not, with what stands in it; or a leaf at depth 0. -/
inductive StreamRecord where
  | command (definite : Bool) (code : RecType) (items : List Item)
  | leaf (code : RecType) (payload : List Byte)

def StreamRecord.Legal : StreamRecord → Prop
  | .command definite code items =>
    code ≠ 0 ∧ (∀ i ∈ items, i.Legal) ∧ (definite = true → (items.flatMap Item.bytes).length ≤ 65534)
  | .leaf code payload => LegalRecord code payload

def StreamRecord.bytes : StreamRecord → List Byte
  | .command true code items => containerBytes code (items.flatMap Item.bytes)
  | .command false code items =>
    (Header.make .container code 0xFFFF).toBytes ++ items.flatMap Item.bytes ++ [0, 0, 0, 0]
  | .leaf code payload => leafBytes code payload

/-- The scopes open inside a command after the first `n` bytes of its items: one within an indefinite container (R143). -/
def itemDepth : List Item → Nat → Nat
  | [], _ => 0
  | i :: items, n =>
    if i.bytes.length ≤ n then itemDepth items (n - i.bytes.length)
    else match i with
      | .indefinite _ _ => if 4 ≤ n then 1 else 0
      | .leaf _ _ | .definite _ _ => 0

/-- The scopes open after the first `n` bytes of a record that it does not end with (R143). -/
def StreamRecord.depthAt (q : StreamRecord) (n : Nat) : Nat :=
  match q with
  | .command _ _ items => if 4 ≤ n then 1 + itemDepth items (n - 4) else 0
  | .leaf _ _ => 0

/-- The record as the collector completes it. -/
def StreamRecord.completed : StreamRecord → CommandRecord
  | .command _ code items => items.foldl Item.noted
      { isContainer := true, code := code, args := [], nested := false, duplicates := [], wrongLength := false, foreign := [] }
  | .leaf code _ =>
      { isContainer := false, code := code, args := [], nested := false, duplicates := [], wrongLength := false, foreign := [] }

/-- The unit is COLLECTING, with this collector and this segment in use. -/
def State.Collects (s : State) (d : Collector) (rest : List Byte) (eom : Bool) : Prop :=
  s.mgmt.unit = .collecting ∧ s.mgmt.collector = d ∧
    (s.rxOf s.straps.mgmtSel).inUse = some { rest := rest, eom := eom }

/-- The state after a command record is completed, the bytes after it left in the segment in use (R143). -/
def State.RecordCompleted (s : State) (r : CommandRecord) (rest : List Byte) (eom : Bool) : State :=
  { s with
    rx := s.rx.set s.straps.mgmtSel { s.rxOf s.straps.mgmtSel with inUse := some { rest := rest, eom := eom } }
    mgmt := { s.mgmt with
      collector := { pos := .header [], scopes := [], command := CommandRecord.empty }
      unit := .executing (.ready r) } }

/-- A structural fault of the management stream (R144). -/
def State.StreamFaulted (s : State) (kind : FaultKind) (reason : Reason) (depth : Nat) : State :=
  s.MgmtClosed.queueNotice (.channelFault s.straps.mgmtSel kind reason depth 0)

end Sys2Proof.Machine
end

