-- ==== Sys2Proof/Certificates/Slice0/Obligations.lean ====
section
/-! DEFINITION. The statements for the provers. Each says what a numbered rule of the spec, or the model where its docstring
names a log entry, asks of the machine. -/

section
open Sys2Proof Sys2Proof.Machine

/-! ### The queue -/

/-- A step takes the command at the front of the queue and runs it on the queue's rest. With no command waiting the block idles:
the model's choice (log 2). -/
def Obligations.StepRunsTheFrontCommand : Prop :=
  (∀ (c : Instr) (rest : List Instr) (s : State), s.pending = c :: rest → step s = exec c { s with pending := rest }) ∧
  ∀ s : State, s.pending = [] → step s = .next s

/-- Every command answers a next state and leaves the queue of the commands behind it alone. The spec's faults and refusals
are effects on the state. A command whose event cannot occur now changes nothing, which is the model's choice (log 1). -/
def Obligations.EveryCommandIsCarriedOut : Prop :=
  ∀ (c : Instr) (s : State), (∃ t, exec c s = .next t ∧ t.pending = s.pending) ∧ (¬ s.Occurs c → exec c s = .next s)

/-! ### Power-on -/

/-- POWER_ON_RESET latches the straps and sets every block to its power-on values. `stallArmed`, `turn` and `segmentSent` have
the model's values (logs 11, 13, 27), and so have the strap levels of `State.reset` (log 3), which is such a state with no
command waiting. What the sender has put in for the next RESTART (log 26) stays like the queue. -/
def Obligations.PowerOnSetsEveryBlock : Prop :=
  (∀ (straps : Straps) (s : State), exec (.powerOnReset straps) s = .next
    { straps := straps
      upPort := .down
      dnPort := .down
      linkErrors := { crc := 0, badHeader := 0, overrun := 0 }
      rx := Vector.replicate 16 { credit := 0, expected := 0, unsync := true, ingress := [], inUse := none }
      table := Vector.replicate 16
        { config := { enabled := true, policySet := 0, windowSize := 8, maxDepth := 16, stallReload := 10000 }
          state := .held, drainExit := .await, bound := none, window := none, resident := [], spilled := 0
          spillInvalid := false, parse := .header [], pendingPush := none, outputStarted := false, outputDepth := 0
          degradedThisMessage := false, egressBlocked := false, stallTimer := 0, stallArmed := false
          stats := { completed := 0, aborted := 0, faults := 0, degrades := 0 }
          ordinal := 0, lastFaultKind := .none, lastFaultReason := .none }
      pointer := 15
      turn := none
      spill := { queue := [], inFlight := none, pendingProbe := false
                 backing := if straps.spillFitted then .untested else .absent, failures := 0, probeCounter := 0 }
      policy := { bankA := { entries := [], defaults := Vector.replicate 8 .pass, refs := 0 }
                  bankB := { entries := [], defaults := Vector.replicate 8 .pass, refs := 0 }
                  active := .a, staging := .ready }
      counters := Vector.replicate 256 { records := 0, bytes := 0 }
      tx := Vector.replicate 16
        { egress := [], credits := 0, seq := 0, pendingBytes := [], segmentSent := false, flushPending := false }
      dnPointer := 15
      dnSending := none
      mgmt := { unit := .idle, messageOpen := false
                collector := { pos := .header [], scopes := [], command := CommandRecord.empty }
                response := none, notices := [], lost := 0, credits := 0, seq := 0, phase := .provisioning
                returnMsg := none, returnUnit := none, stallReload := 10000, stallTimer := 0, stallArmed := false }
      pending := s.pending
      duringRestart := s.duringRestart }) ∧
  ∀ s : State, s.pending = [] → s.duringRestart = [] →
    exec (.powerOnReset { mgmtSel := 0, spillFitted := true, spillRate := 0 }) s = .next State.reset

/-- The power-on policy: its roles, entries, defaults and counts (R117); and every lookup in either bank gives PASS, no remap
type and no count index. What R117 says of containers under it is log 46, and is not claimed here. -/
def Obligations.PowerOnPolicyIsPass : Prop :=
  ∀ (straps : Straps) (s : State), ∃ t, exec (.powerOnReset straps) s = .next t ∧
    t.policy.active = .a ∧ t.policy.stagingBank = .b ∧ t.policy.staging = .ready ∧
    ∀ n : BankName, (t.policy.bank n).entries = [] ∧ (t.policy.bank n).refs = 0 ∧
      (∀ set : Fin 8, (t.policy.bank n).defaults[set] = .pass) ∧
      ∀ (set : Fin 8) (type : RecType),
        (t.policy.bank n).lookup set type = { action := .pass, remap := none, countIndex := none }

/-! ### Link up and link down -/

/-- Upstream link up marks every channel unsynchronised and sets the management egress sequence to 0; Downstream link up
sets every egress sequence to 0. Nothing else changes. -/
def Obligations.LinkUpSetsSequences : Prop :=
  (∀ s : State, s.upPort = .down → exec .upstreamLinkUp s = .next
    { s with
      upPort := .up
      rx := Vector.ofFn fun c => { s.rxOf c with unsync := true }
      mgmt := { s.mgmt with seq := 0 } }) ∧
  ∀ s : State, s.dnPort = .down → exec .downstreamLinkUp s = .next
    { s with dnPort := .up, tx := Vector.ofFn fun c => { s.txOf c with seq := 0 } }

/-- Upstream link down: credit and waiting segments are gone on every channel, the open messages fault LINK in ascending
order, and the management stream, the return-path credits and the message being sent are dropped; a notice being sent is
counted as lost. A turn whose channel has no step left is over (log 13). What a fault does is `FaultRecordsNotifiesUnwinds`,
and what `settleTurn` does is in `EngineServesChannelsInTurn`. -/
def Obligations.UpstreamLinkDownFaultsOpenMessages : Prop :=
  ∀ s : State, s.upPort = .up →
    let u := { s with upPort := .down, rx := Vector.ofFn fun c => { s.rxOf c with credit := 0, ingress := [] } }
    let v := (s.linkFaulting fun _ => true).foldl (fun v c => v.fault c .link .none true) u
    exec .upstreamLinkDown s = .next (State.settleTurn
      { v with
        rx := v.rx.set s.straps.mgmtSel { v.rxOf s.straps.mgmtSel with inUse := none }
        mgmt := { v.mgmt with
          messageOpen := false
          unit := if s.mgmt.unit = .collecting then .idle else s.mgmt.unit
          collector := Collector.empty
          credits := 0
          returnMsg := none
          returnUnit := none
          lost := match s.mgmt.returnMsg with
            | some { kind := .notice _, rest := _ } => min 255 (v.mgmt.lost + 1)
            | some { kind := .response, rest := _ } | none => v.mgmt.lost } })

/-- Downstream link down: every egress segment is discarded and the downstream credits are 0; the channels whose message has
output fault LINK without an ABORT, in ascending order. That a channel whose slots free is no longer egress-blocked is log
18, that a turn whose channel has no step left is over is log 13, and that the channel of a segment cut on the lane stays the
one served last is log 43. -/
def Obligations.DownstreamLinkDownDiscardsOutput : Prop :=
  ∀ s : State, s.dnPort = .up →
    let u := { s with
      dnPort := .down
      dnSending := none
      tx := Vector.ofFn fun c => { s.txOf c with egress := [], credits := 0 }
      table := Vector.ofFn fun c =>
        if c ≠ s.straps.mgmtSel ∧ (s.txOf c).egress ≠ [] then { s.ch c with egressBlocked := false } else s.ch c }
    let v := (s.linkFaulting Channel.outputStarted).foldl (fun v c => v.fault c .link .none false) u
    exec .downstreamLinkDown s = .next v.settleTurn

/-! ### Segments and credit words -/

/-- The CRC of the worked segment of R127 and its six bytes; the check byte of the worked entry of R89. -/
def Obligations.WorkedCrcs : Prop :=
  crc16 [0x35] = 0x8706 ∧ crc16 [0x35, 0x40] = 0xAFAB ∧ crc16 [0x35, 0x40, 0x00] = 0xEF05 ∧
    encodeSegment 3 5 false true false [] = [0x35, 0x40, 0x00, 0x00, 0x09, 0xC1] ∧
    ScopeEntry.serialize { type := 0x044, disposition := .discard, mode := .indefinite, consumed := 4, looked := true } 6 1
      = [0xB0, 0x44, 0x00, 0x00, 0x00, 0x00, 0x04, 0xFE]

/-- A header written and read back is the header, and a segment or credit word sent by this layout is read back with every
field, whatever its values. -/
def Obligations.LinkUnitsReadBack : Prop :=
  (∀ h : Header, Header.ofList h.toBytes = some h) ∧
  (∀ (c : ChannelNo) (seq : BitVec 4) (som eom abort : Bool) (payload : List Byte), LegalSegment eom abort payload →
    decodeSegment (encodeSegment c seq som eom abort payload) =
      .ok { channel := c, seq := seq, som := som, eom := eom, abort := abort, payload := payload }) ∧
  ∀ (managed : ChannelNo → Bool) (c : ChannelNo) (n : Nat), managed c = true → 1 ≤ n → n ≤ 8 →
    decodeCredit managed (encodeCredit c n) = .ok (c, n)

/-- A valid segment with credit, for a channel allowed to receive, spends one credit and joins the tail of its ingress buffer,
marked when its number is not the one expected of a synchronised channel. -/
def Obligations.SegmentJoinsItsBuffer : Prop :=
  ∀ (s : State) (c : ChannelNo) (seq : BitVec 4) (som eom abort : Bool) (payload : List Byte),
    s.upPort = .up → LegalSegment eom abort payload → 0 < (s.rxOf c).credit → s.Receives c →
    exec (.segmentReceived (encodeSegment c seq som eom abort payload)) s = .next
      { s with rx := s.rx.set c { s.rxOf c with
          credit := (s.rxOf c).credit - 1
          expected := seq + 1
          unsync := false
          ingress := (s.rxOf c).ingress ++
            [{ som := som, eom := eom, abort := abort, payload := payload,
               seqBreak := !(s.rxOf c).unsync && seq != (s.rxOf c).expected }] } }

/-- A segment unit is tested for its CRC first and then for its header; an invalid one raises one link error count. A unit too
short to hold a CRC raises one of the two counts (log 4), and one with a good CRC and too few bytes for a header is a bad
header (log 5). A valid segment without credit is an overrun and leaves its channel alone; one with credit for a channel not
allowed to receive spends the credit and is discarded unchecked. A segment unit on the Downstream lane is discarded without
being examined or counted. -/
def Obligations.UnitsAreDiscardedAndCounted : Prop :=
  (∀ (s : State) (u : List Byte), s.upPort = .up → u.length < 2 →
    exec (.segmentReceived u) s =
        .next { s with linkErrors := { s.linkErrors with crc := min 65535 (s.linkErrors.crc + 1) } } ∨
      exec (.segmentReceived u) s =
        .next { s with linkErrors := { s.linkErrors with badHeader := min 65535 (s.linkErrors.badHeader + 1) } }) ∧
  (∀ (s : State) (body : List Byte), s.upPort = .up → body.length < 4 →
    exec (.segmentReceived (withCrc body)) s =
      .next { s with linkErrors := { s.linkErrors with badHeader := min 65535 (s.linkErrors.badHeader + 1) } }) ∧
  (∀ (s : State) (u : List Byte), s.upPort = .up → 2 ≤ u.length →
    (u.drop (u.length - 2) ≠ wordBytes (crc16 (u.take (u.length - 2))) →
      exec (.segmentReceived u) s =
        .next { s with linkErrors := { s.linkErrors with crc := min 65535 (s.linkErrors.crc + 1) } }) ∧
    ∀ (b0 b1 b2 b3 : Byte) (payload : List Byte), u = withCrc (b0 :: b1 :: b2 :: b3 :: payload) →
      (b1 &&& 0x1F ≠ 0 ∨ b3 ≠ 0 ∨ 64 < b2.toNat ∨ payload.length ≠ b2.toNat ∨ (b2 = 0 ∧ b1 &&& 0x60 = 0) ∨
        (b1 &&& 0x20 ≠ 0 ∧ b2 ≠ 0)) →
      exec (.segmentReceived u) s =
        .next { s with linkErrors := { s.linkErrors with badHeader := min 65535 (s.linkErrors.badHeader + 1) } }) ∧
  (∀ (s : State) (c : ChannelNo) (seq : BitVec 4) (som eom abort : Bool) (payload : List Byte),
    s.upPort = .up → LegalSegment eom abort payload →
    ((s.rxOf c).credit = 0 → exec (.segmentReceived (encodeSegment c seq som eom abort payload)) s = .next
      { s with linkErrors := { s.linkErrors with overrun := min 65535 (s.linkErrors.overrun + 1) } }) ∧
    (0 < (s.rxOf c).credit → ¬ s.Receives c →
      exec (.segmentReceived (encodeSegment c seq som eom abort payload)) s = .next
        { s with rx := s.rx.set c { s.rxOf c with credit := (s.rxOf c).credit - 1 } })) ∧
  ∀ (s : State) (u : List Byte), exec (.downstreamSegmentDiscard u) s = .next s

/-- An accepted credit word raises the return-path credits up to 4, or its data channel's downstream credits up to 8. One is
refused and counted for a failing CRC, and then for its content: a must-be-zero bit, a count of 0 or above 8, a length other
than 4, or a channel the port does not take. A unit too short to hold a CRC raises one of the two counts (log 4). -/
def Obligations.CreditWordsRaiseCredits : Prop :=
  (∀ (s : State) (c : ChannelNo) (n : Nat), 1 ≤ n → n ≤ 8 →
    (s.upPort = .up → c = s.straps.mgmtSel → exec (.creditWordReceived .upstream (encodeCredit c n)) s =
      .next { s with mgmt := { s.mgmt with credits := min 4 (s.mgmt.credits + n) } }) ∧
    (s.dnPort = .up → c ≠ s.straps.mgmtSel → exec (.creditWordReceived .downstream (encodeCredit c n)) s =
      .next { s with tx := s.tx.set c { s.txOf c with credits := min 8 ((s.txOf c).credits + n) } })) ∧
  (∀ (s : State) (port : Port) (u : List Byte), s.portState port = .up → u.length < 2 →
    exec (.creditWordReceived port u) s =
        .next { s with linkErrors := { s.linkErrors with crc := min 65535 (s.linkErrors.crc + 1) } } ∨
      exec (.creditWordReceived port u) s =
        .next { s with linkErrors := { s.linkErrors with badHeader := min 65535 (s.linkErrors.badHeader + 1) } }) ∧
  ∀ (s : State) (port : Port) (u : List Byte), s.portState port = .up → 2 ≤ u.length →
    (u.drop (u.length - 2) ≠ wordBytes (crc16 (u.take (u.length - 2))) →
      exec (.creditWordReceived port u) s =
        .next { s with linkErrors := { s.linkErrors with crc := min 65535 (s.linkErrors.crc + 1) } }) ∧
    ∀ body : List Byte, u = withCrc body →
      (u.length ≠ 4 ∨ ∃ b0 b1 : Byte, body = [b0, b1] ∧
        (b0 &&& 0x0F ≠ 0 ∨ b1 = 0 ∨ 8 < b1.toNat ∨
          (port = .upstream ∧ (b0 >>> 4).toNat ≠ s.straps.mgmtSel.val) ∨
          (port = .downstream ∧ (b0 >>> 4).toNat = s.straps.mgmtSel.val))) →
      exec (.creditWordReceived port u) s =
        .next { s with linkErrors := { s.linkErrors with badHeader := min 65535 (s.linkErrors.badHeader + 1) } }

/-- While the Upstream lane is free, also between the segments of a message in progress, the credit word of the
lowest-numbered channel with a grant due is sent; its count is 4 less the occupied slots and the credit outstanding, which
rises by it. Only the last segment of a message holds the lane between events (log 14). -/
def Obligations.GrantFillsTheLowestChannel : Prop :=
  ∀ (s : State) (c : ChannelNo), s.upPort = .up → (∀ m, s.mgmt.returnMsg = some m → m.rest ≠ []) → s.Receives c →
    (s.rxOf c).credit + (s.rxOf c).occupied < 4 →
    (∀ d, d < c → ¬ s.Receives d ∨ 4 ≤ (s.rxOf d).credit + (s.rxOf d).occupied) →
    exec .creditWordGrant s = .next
      { s with
        rx := s.rx.set c { s.rxOf c with credit := 4 - (s.rxOf c).occupied }
        mgmt := { s.mgmt with
          returnUnit := some (.creditWord (encodeCredit c (4 - (s.rxOf c).occupied - (s.rxOf c).credit))) } }

/-! ### The Downstream lane -/

/-- The lane goes to the first data channel after the one served last with a segment and a credit; its head segment is sent
with the channel's egress sequence and its CRC, and the credit falls. The channel counts as served last from then on (log 43). -/
def Obligations.DownstreamLaneIsRoundRobin : Prop :=
  ∀ (s : State) (c : ChannelNo) (g : EgressSegment) (gs : List EgressSegment),
    s.dnPort = .up → s.dnSending = none →
    FirstAfter s.dnPointer (fun d => d ≠ s.straps.mgmtSel ∧ (s.txOf d).egress ≠ [] ∧ 0 < (s.txOf d).credits) c →
    (s.txOf c).egress = g :: gs →
    exec .downstreamSegmentSend s = .next
      { s with
        dnPointer := c
        dnSending := some { channel := c, bytes := encodeSegment c (s.txOf c).seq g.som g.eom g.abort g.payload }
        tx := s.tx.set c { s.txOf c with credits := (s.txOf c).credits - 1, seq := (s.txOf c).seq + 1 } }

/-- When the segment's last byte is sent its slot frees and egress-blocked clears; an ordinary slot that frees closes a
flush-pending segment. -/
def Obligations.SentSegmentFreesItsSlot : Prop :=
  ∀ (s : State) (c : ChannelNo) (bytes : List Byte) (g : EgressSegment) (gs : List EgressSegment),
    s.dnSending = some { channel := c, bytes := bytes } → (s.txOf c).egress = g :: gs →
    exec .downstreamSegmentSent s = .next
      { s with
        dnSending := none
        table := s.table.set c { s.ch c with egressBlocked := false }
        tx := s.tx.set c
          (if g.terminal = false ∧ (s.txOf c).flushPending = true ∧ (s.txOf c).pendingBytes ≠ [] then
            { s.txOf c with
              egress := gs ++
                [{ payload := (s.txOf c).pendingBytes, som := !(s.txOf c).segmentSent, eom := false, abort := false }]
              segmentSent := true, pendingBytes := [], flushPending := false }
          else { s.txOf c with egress := gs }) }

/-! ### The return path -/

/-- When the lane can send a segment and no message is in progress, a waiting response is begun, and else the oldest notice,
whose LOST leaf holds the lost count; each begins with its first segment (log 14). The next segments of the message in
progress follow, each for one return-path credit; only the last carries EOM. The bytes of the four notices are given with the
codes they report. -/
def Obligations.ResponseGoesBeforeNotices : Prop :=
  (∀ s : State, s.upPort = .up → s.mgmt.returnMsg = none → s.NoGrantDue → 0 < s.mgmt.credits →
    (∀ bytes : List Byte, s.mgmt.unit = .responding → s.mgmt.response = some bytes →
      exec .returnMessageBegin s = .next
        { s with mgmt := { s.mgmt with
            credits := s.mgmt.credits - 1
            seq := s.mgmt.seq + 1
            returnUnit := some (.segment (encodeSegment s.straps.mgmtSel s.mgmt.seq true (decide (bytes.length ≤ 64)) false
              (bytes.take 64)))
            returnMsg := some { kind := .response, rest := bytes.drop 64 } } }) ∧
    ∀ (n : Notice) (ns : List Notice), s.mgmt.unit ≠ .responding ∨ s.mgmt.response = none → s.mgmt.notices = n :: ns →
      exec .returnMessageBegin s = .next (s.NoticeBegun n ns)) ∧
  (∀ (lost depth failures : Nat) (c : ChannelNo) (k : FaultKind) (r : Reason) (o : BitVec 16) (t : RecType) (b : Backing)
      (n : BankName),
    let one := fun v : Nat => BitVec.ofNat 8 v
    let high := fun w : BitVec 16 => w.extractLsb' 8 8
    let low := fun w : BitVec 16 => w.extractLsb' 0 8
    (Notice.channelFault c k r depth o).toBytes lost =
      [0x8D, 0x01, 0, 27, 0, 0x03, 0, 1, one lost, 0, 0x10, 0, 1, one c.val, 0, 0x49, 0, 2, one k.code, one r.code,
        0, 0x4B, 0, 1, one depth, 0, 0x48, 0, 2, high o, low o] ∧
    (Notice.degraded c o t k).toBytes lost =
      [0x8D, 0x02, 0, 27, 0, 0x03, 0, 1, one lost, 0, 0x10, 0, 1, one c.val, 0, 0x48, 0, 2, high o, low o,
        0, 0x22, 0, 2, high (t.setWidth 16), low (t.setWidth 16), 0, 0x4C, 0, 1, one k.code] ∧
    (Notice.backingState b failures).toBytes lost =
      [0x8D, 0x03, 0, 15, 0, 0x03, 0, 1, one lost, 0, 0x35, 0, 1, one b.code, 0, 0x36, 0, 1, one failures] ∧
    (Notice.commitSettled n).toBytes lost =
      [0x8D, 0x04, 0, 10, 0, 0x03, 0, 1, one lost, 0, 0x37, 0, 1, one n.code]) ∧
  [FaultKind.none, .malformed, .ragged, .gap, .depth, .noBacking, .fillCheck, .stall, .link].map FaultKind.code =
    [0, 1, 2, 3, 4, 5, 6, 7, 8] ∧
  [Reason.none, .reservedBits, .badEnd, .leafIndefinite, .strayEnd, .overrun, .lateOverrun].map Reason.code =
    [0, 1, 2, 3, 4, 5, 6] ∧
  [Backing.absent, .untested, .ready, .suspect, .lost].map Backing.code = [0, 1, 2, 3, 4] ∧
  [BankName.a, .b].map BankName.code = [0, 1] ∧
  ∀ (s : State) (kind : ReturnKind) (rest : List Byte), s.upPort = .up → s.NoGrantDue → 0 < s.mgmt.credits →
    s.mgmt.returnMsg = some { kind := kind, rest := rest } → rest ≠ [] →
    exec .returnSegmentSend s = .next
      { s with mgmt := { s.mgmt with
          credits := s.mgmt.credits - 1
          seq := s.mgmt.seq + 1
          returnUnit := some (.segment (encodeSegment s.straps.mgmtSel s.mgmt.seq false (decide (rest.length ≤ 64)) false
            (rest.take 64)))
          returnMsg := some { kind := kind, rest := rest.drop 64 } } }

/-- When the response has been sent whole, the unit goes to IDLE if no management message is open, and else to COLLECTING,
where the segment in use goes on: with bytes left it waits for them, and with none left its slot frees and its EOM is
considered, both within this event (log 21). When a notice has been sent, the lost count is lowered by the value it carried. -/
def Obligations.SentMessagesSettle : Prop :=
  (∀ s : State, s.mgmt.returnMsg = some { kind := .response, rest := [] } →
    let u := { s with mgmt := { s.mgmt with returnMsg := none, response := none, unit := .collecting } }
    (s.mgmt.messageOpen = false → exec .responseSent s =
      .next { s with mgmt := { s.mgmt with returnMsg := none, response := none, unit := .idle } }) ∧
    (s.mgmt.messageOpen = true → (s.rxOf s.straps.mgmtSel).inUse = none → exec .responseSent s = .next u) ∧
    ∀ (rest : List Byte) (eom : Bool), s.mgmt.messageOpen = true →
      (s.rxOf s.straps.mgmtSel).inUse = some { rest := rest, eom := eom } →
      (rest ≠ [] → exec .responseSent s = .next u) ∧
      (rest = [] → eom = false → exec .responseSent s = .next
        { u with rx := s.rx.set s.straps.mgmtSel { s.rxOf s.straps.mgmtSel with inUse := none } }) ∧
      (rest = [] → eom = true → s.mgmt.collector.scopes = [] → s.mgmt.collector.pos = .header [] →
        exec .responseSent s = .next u.MgmtClosed) ∧
      (rest = [] → eom = true → ¬ (s.mgmt.collector.scopes = [] ∧ s.mgmt.collector.pos = .header []) →
        exec .responseSent s = .next (u.MgmtClosed.queueNotice
          (.channelFault s.straps.mgmtSel .ragged .none s.mgmt.collector.scopes.length 0)))) ∧
  ∀ (s : State) (carried : Nat), s.mgmt.returnMsg = some { kind := .notice carried, rest := [] } →
    exec .noticeSent s = .next { s with mgmt := { s.mgmt with returnMsg := none, lost := s.mgmt.lost - carried } }

/-! ### Faults, unwinds and notices -/

/-- An unwind removes the channel's queued job, releases its bank, ends its output, drops the segment in use and clears its
stack; with the channel's job in flight the channel goes to DRAIN, and else to its exit. Output-started becomes no (log 9),
and the drain exit is kept outside DRAIN (log 10). -/
def Obligations.UnwindEndsTheMessage : Prop :=
  ∀ (s : State) (c : ChannelNo) (sendAbort : Bool) (exit : DrainExit),
    let flying := ∃ j p, s.spill.inFlight = some (.data j p) ∧ j.channel = c
    let next := fun (state : ChannelState) (kept : DrainExit) =>
      { s with
        spill := { s.spill with queue := s.spill.queue.filter fun j => j.channel != c }
        policy := match (s.ch c).bound with
          | none => s.policy
          | some b => s.policy.release b.bank
        tx := s.tx.set c
          (if (s.ch c).outputStarted = true ∧ sendAbort = true then
            { s.txOf c with
              egress := (s.txOf c).egress ++ [{ payload := [], som := !(s.txOf c).segmentSent, eom := false, abort := true }]
              segmentSent := true, pendingBytes := [], flushPending := false }
          else { s.txOf c with pendingBytes := [], flushPending := false })
        rx := s.rx.set c { s.rxOf c with inUse := none }
        table := s.table.set c { s.ch c with
          state := state, drainExit := kept, bound := none, resident := [], spilled := 0, spillInvalid := false
          parse := .header [], pendingPush := none, outputStarted := false, outputDepth := 0, egressBlocked := false } }
    (flying → s.unwind c sendAbort exit = next .drain exit) ∧
    (¬ flying → s.unwind c sendAbort exit = next exit.toState (s.ch c).drainExit)

/-- A fault records its kind and reason and raises the statistic, queues its notice with the depth it was found at, and then
unwinds. A notice joins the tail of a queue of fewer than 32; a full queue drops it and raises the lost count, up to 255. -/
def Obligations.FaultRecordsNotifiesUnwinds : Prop :=
  (∀ (s : State) (c : ChannelNo) (k : FaultKind) (r : Reason) (sendAbort : Bool),
    s.fault c k r sendAbort =
      (({ s with table := s.table.set c { s.ch c with
            lastFaultKind := k, lastFaultReason := r
            stats := { (s.ch c).stats with faults := min 65535 ((s.ch c).stats.faults + 1) } } }).queueNotice
        (.channelFault c k r ((s.ch c).resident.length + (s.ch c).spilled) (s.ch c).ordinal)).unwind c sendAbort .await) ∧
  ∀ (s : State) (n : Notice),
    (s.mgmt.notices.length < 32 → s.queueNotice n = { s with mgmt := { s.mgmt with notices := s.mgmt.notices ++ [n] } }) ∧
    (32 ≤ s.mgmt.notices.length → s.queueNotice n = { s with mgmt := { s.mgmt with lost := min 255 (s.mgmt.lost + 1) } })

/-! ### Time -/

/-- A tick counts down by 1 every stall timer that runs, and changes nothing else. A running timer that has reached 0 faults its
channel STALL, or drops the partial management command with a notice of kind STALL; that the expiry is an event of its own
after the tick is log 11, and that a waiting zero-length segment stops a timer is log 12. -/
def Obligations.TimersRunDownToStall : Prop :=
  (∀ s : State, ∃ t, exec .timebaseTick s = .next t ∧ t = { s with table := t.table, mgmt := t.mgmt } ∧
    (∀ c, (s.TimerRuns c → t.ch c = { s.ch c with stallTimer := (s.ch c).stallTimer - 1 }) ∧
      (¬ s.TimerRuns c → t.ch c = s.ch c)) ∧
    (s.MgmtTimerRuns → t.mgmt = { s.mgmt with stallTimer := s.mgmt.stallTimer - 1 }) ∧
    (¬ s.MgmtTimerRuns → t.mgmt = s.mgmt)) ∧
  (∀ (s : State) (c : ChannelNo), s.TimerRuns c → (s.ch c).stallTimer = 0 →
    exec (.stall c) s = .next (s.fault c .stall .none true)) ∧
  ∀ s : State, s.MgmtTimerRuns → s.mgmt.stallTimer = 0 →
    exec .mgmtStallExpiry s = .next (s.MgmtClosed.queueNotice
      (.channelFault s.straps.mgmtSel .stall .none s.mgmt.collector.scopes.length 0))

/-! ### The management stream -/

/-- In IDLE the oldest management segment starts a message if it carries SOM and not ABORT, and is discarded otherwise; a
sequence-break mark has no effect. In COLLECTING each segment taken loads the stall timer (log 41), and the mark and flags are
considered in order: a sequence break and a SOM are structural faults that keep the segment, an ABORT ends the message, and
any other segment is put in use, a zero-length one too (log 21). Whether a loaded timer runs is `stallArmed` (log 11). -/
def Obligations.ManagementTakesSegments : Prop :=
  (∀ (s : State) (g : Segment) (gs : List Segment), s.mgmt.unit = .idle →
    (s.rxOf s.straps.mgmtSel).inUse = none → (s.rxOf s.straps.mgmtSel).ingress = g :: gs →
    (g.som = true → g.abort = false → exec .mgmtTakeSegment s = .next
      { s with
        rx := s.rx.set s.straps.mgmtSel
          { s.rxOf s.straps.mgmtSel with ingress := gs, inUse := some { rest := g.payload, eom := g.eom } }
        mgmt := { s.mgmt with
          unit := .collecting, messageOpen := true, collector := Collector.empty
          stallTimer := s.mgmt.stallReload, stallArmed := s.mgmt.stallReload != 0 } }) ∧
    (g.som = false ∨ g.abort = true → exec .mgmtTakeSegment s = .next
      { s with rx := s.rx.set s.straps.mgmtSel { s.rxOf s.straps.mgmtSel with ingress := gs } })) ∧
  ∀ (s : State) (g : Segment) (gs : List Segment), s.mgmt.unit = .collecting →
    (s.rxOf s.straps.mgmtSel).inUse = none → (s.rxOf s.straps.mgmtSel).ingress = g :: gs →
    let loaded := { s with mgmt := { s.mgmt with
      stallTimer := s.mgmt.stallReload, stallArmed := s.mgmt.stallReload != 0 } }
    let popped := { loaded with rx := s.rx.set s.straps.mgmtSel { s.rxOf s.straps.mgmtSel with ingress := gs } }
    let faulted := fun kind => loaded.MgmtClosed.queueNotice
      (.channelFault s.straps.mgmtSel kind .none s.mgmt.collector.scopes.length 0)
    (g.seqBreak = true → exec .mgmtTakeSegment s = .next (faulted .gap)) ∧
    (g.seqBreak = false → g.abort = true → exec .mgmtTakeSegment s = .next popped.MgmtClosed) ∧
    (g.seqBreak = false → g.abort = false → g.som = true → exec .mgmtTakeSegment s = .next (faulted .ragged)) ∧
    (g.seqBreak = false → g.abort = false → g.som = false → exec .mgmtTakeSegment s = .next
      { loaded with
        rx := s.rx.set s.straps.mgmtSel
          { s.rxOf s.straps.mgmtSel with ingress := gs, inUse := some { rest := g.payload, eom := g.eom } } })

/-- A command record of the management stream is completed with its code, its arguments and the notes made, and the unit goes to
EXECUTING with the bytes after it untaken: a definite or indefinite container with any records in it, or a leaf at depth 0.
A record may be cut into any number of segments: one that ends within the record is used up without EOM, and the record goes on
in the next; with EOM the message ends cleanly at a record boundary and faults RAGGED within a record, with the scopes that
are open there. A record of distinct arguments, each of its type's length, carries exactly those; CommandsAreCheckedInOrder
gives argLength, type by type. When the EOM is considered is log 21. -/
def Obligations.CommandRecordIsCollected : Prop :=
  (∀ (s : State) (q : StreamRecord) (rest : List Byte) (eom : Bool), q.Legal → s.mgmt.collector.pos = .header [] →
    s.mgmt.collector.scopes = [] → s.Collects s.mgmt.collector (q.bytes ++ rest) eom →
    exec .mgmtParseBytes s = .next (s.RecordCompleted q.completed rest eom)) ∧
  (∀ (q : StreamRecord) (d : Collector), q.Legal → d.pos = .header [] → d.scopes = [] →
    ∃ taken : Nat → Collector, taken 0 = d ∧
      (∀ (i n : Nat) (s : State) (eom : Bool), i + n < q.bytes.length →
        s.Collects (taken i) ((q.bytes.drop i).take n) eom →
        (eom = false → exec .mgmtParseBytes s = .next
          { s with
            rx := s.rx.set s.straps.mgmtSel { s.rxOf s.straps.mgmtSel with inUse := none }
            mgmt := { s.mgmt with collector := taken (i + n) } }) ∧
        (eom = true → i + n = 0 → exec .mgmtParseBytes s = .next s.MgmtClosed) ∧
        (eom = true → i + n ≠ 0 → exec .mgmtParseBytes s = .next (s.StreamFaulted .ragged .none (q.depthAt (i + n))))) ∧
      ∀ (i : Nat) (s : State) (rest : List Byte) (eom : Bool), i < q.bytes.length →
        s.Collects (taken i) (q.bytes.drop i ++ rest) eom →
        exec .mgmtParseBytes s = .next (s.RecordCompleted q.completed rest eom)) ∧
  ∀ (s : State) (code : RecType) (args : List Arg) (rest : List Byte) (eom : Bool),
    s.mgmt.collector.pos = .header [] → s.mgmt.collector.scopes = [] → code ≠ 0 →
    s.Collects s.mgmt.collector (commandBytes code args ++ rest) eom →
    (∀ a ∈ args, argLength a.type = some a.value.length) → (args.map Arg.type).Nodup →
    exec .mgmtParseBytes s = .next (s.RecordCompleted
      { isContainer := true, code := code, args := args, nested := false, duplicates := [], wrongLength := false
        foreign := [] } rest eom)

/-- A header of the management stream is a structural fault, with the number of scopes the collector had open: one that fails a
test of its own, a stray End record, a header that overruns its definite scope, an End record whose indefinite scope has used
more than its definite parent has left (the depth is then that after the pop, log 19), and an indefinite container inside the
second scope, with kind DEPTH. The partial command is dropped and the message closed. The header may have begun in an earlier
segment. -/
def Obligations.ManagementHeaderFaults : Prop :=
  ∀ (s : State) (got taken rest : List Byte) (b0 b1 b2 b3 : Byte) (eom : Bool),
    s.mgmt.collector.pos = .header got → got ++ taken = [b0, b1, b2, b3] → taken ≠ [] →
    s.Collects s.mgmt.collector (taken ++ rest) eom →
    let h := Header.ofBytes b0 b1 b2 b3
    let scopes := s.mgmt.collector.scopes
    let faulted := fun kind reason depth => exec .mgmtParseBytes s = .next (s.StreamFaulted kind reason depth)
    (∀ r, headerFault h = some r → faulted .malformed r scopes.length) ∧
    (headerFault h = none → h.isEnd = true → (∀ sc, scopes.head? = some sc → sc.mode ≠ .indefinite) →
      faulted .malformed .strayEnd scopes.length) ∧
    (∀ inner parent outer r, headerFault h = none → h.isEnd = true → scopes = inner :: parent :: outer →
      inner.mode = .indefinite → parent.mode = .definite r → r < 4 + inner.consumed + 4 →
      faulted .malformed .lateOverrun (outer.length + 1)) ∧
    (∀ inner outer, headerFault h = none → h.isEnd = false → scopes = inner :: outer →
      inner.mode.deductChild h = none → faulted .malformed .overrun scopes.length) ∧
    (∀ inner parent outer, headerFault h = none → h.isEnd = false → scopes = inner :: parent :: outer →
      inner.mode.deductChild h ≠ none → h.length = 0xFFFF → faulted .depth .none scopes.length)

/-! ### Service of the channels -/

/-- The engine goes on with the channel whose turn is in progress while that channel has a step to take, and else serves the
first eligible data channel after its pointer; with none eligible it serves none (log 13). The step it takes for the channel
served is a pending push first, then a close that waits for its completion, then a close that is owed, then the bytes of the
segment in use, and the flags of the next segment last. -/
def Obligations.EngineServesChannelsInTurn : Prop :=
  (∀ (s : State) (c : ChannelNo),
    (s.turn = some c → s.Eligible c → s.served = some c) ∧
    ((∀ d, s.turn = some d → ¬ s.Eligible d) → (s.served = some c ↔ FirstAfter s.pointer s.Eligible c)) ∧
    ((∀ d, ¬ s.Eligible d) → s.served = none)) ∧
  (∀ s : State, ((∃ c, s.turn = some c ∧ s.Eligible c) → s.settleTurn = s) ∧
    ((∀ c, s.turn = some c → ¬ s.Eligible c) → s.settleTurn = { s with turn := none })) ∧
  ∀ (s : State) (c : ChannelNo), s.served = some c →
    ((s.ch c).state = .await → s.servedFor .awaitTake = some c) ∧
    ((s.ch c).state = .inMessage →
      (∀ p, (s.ch c).pendingPush = some p → s.servedFor (if p.refused then .degradePush else .carryOutPush) = some c) ∧
      ((s.ch c).pendingPush = none →
        (∀ e, (s.ch c).parse = .closePending e → s.servedFor .completeClose = some c) ∧
        ((s.ch c).OwesClose → s.servedFor .beginClose = some c) ∧
        ((∀ e, (s.ch c).parse ≠ .closePending e) → ¬ (s.ch c).OwesClose →
          ((s.rxOf c).inUse ≠ none →
            (∀ got, (s.ch c).parse = .header got → s.servedFor .completeHeader = some c) ∧
            (∀ n m, (s.ch c).parse = .copy n m → s.servedFor .payloadRun = some c) ∧
            ∀ n, (s.ch c).parse = .skip n → s.servedFor .payloadRun = some c) ∧
          ((s.rxOf c).inUse = none → s.servedFor .takeFlags = some c))))

/-! ### Taking a segment -/

/-- In AWAIT a segment without SOM or with ABORT is discarded and the turn ends; one that starts a message binds the active
bank and the channel's set, raises the ordinal, loads the stall timer and is put in use; a zero-length one with EOM ends its
message at once. Segment-of-message-sent becomes clear with it (log 28); whether the loaded timer runs is `stallArmed`
(log 11). -/
def Obligations.AwaitTakesSegment : Prop :=
  ∀ (s : State) (c : ChannelNo) (g : Segment) (gs : List Segment),
    s.servedFor .awaitTake = some c → (s.rxOf c).ingress = g :: gs →
    (g.som = false ∨ g.abort = true → exec .awaitTakeSegment s = .next
      { s.Stepping c with turn := none, rx := s.rx.set c { s.rxOf c with ingress := gs } }) ∧
    (g.som = true → g.abort = false → g.payload ≠ [] → exec .awaitTakeSegment s = .next
      { s.Stepping c with
        rx := s.rx.set c { s.rxOf c with ingress := gs, inUse := some { rest := g.payload, eom := g.eom } }
        policy := s.policy.setBank s.policy.active
          { s.policy.bank s.policy.active with refs := (s.policy.bank s.policy.active).refs + 1 }
        tx := s.tx.set c { s.txOf c with segmentSent := false }
        table := s.table.set c { s.ch c with
          state := .inMessage
          bound := some { bank := s.policy.active, set := (s.ch c).config.policySet }
          ordinal := (s.ch c).ordinal + 1
          stallTimer := (s.ch c).config.stallReload
          stallArmed := (s.ch c).config.stallReload != 0
          outputStarted := false, degradedThisMessage := false, outputDepth := 0, resident := [], spilled := 0
          parse := .header [] } }) ∧
    (g.som = true → g.abort = false → g.payload = [] → g.eom = true → exec .awaitTakeSegment s = .next
      { s.Stepping c with
        turn := none
        rx := s.rx.set c { s.rxOf c with ingress := gs, inUse := none }
        tx := s.tx.set c { s.txOf c with segmentSent := false }
        table := s.table.set c { s.ch c with
          state := .await
          bound := none
          ordinal := (s.ch c).ordinal + 1
          stallTimer := (s.ch c).config.stallReload
          stallArmed := (s.ch c).config.stallReload != 0
          stats := { (s.ch c).stats with completed := min 65535 ((s.ch c).stats.completed + 1) }
          outputStarted := false, degradedThisMessage := false, outputDepth := 0, resident := [], spilled := 0
          parse := .header [] } })

/-- In IN_MESSAGE each segment taken loads the stall timer (log 41); whether the loaded timer runs is `stallArmed` (log 11). The
mark and the flags are then considered in order: a sequence break faults GAP and a SOM faults RAGGED, both keeping the segment;
an ABORT is taken, counted and unwinds the message, and its turn ends (log 13); any other segment is put in use. -/
def Obligations.FlagsAreTakenInOrder : Prop :=
  ∀ (s : State) (c : ChannelNo) (g : Segment) (gs : List Segment),
    s.servedFor .takeFlags = some c → (s.rxOf c).ingress = g :: gs →
    let loaded := { s.ch c with
      stallTimer := (s.ch c).config.stallReload, stallArmed := (s.ch c).config.stallReload != 0 }
    let kept := { s.Stepping c with table := s.table.set c loaded }
    (g.seqBreak = true → exec .takeSegmentFlags s = .next (kept.fault c .gap .none true).endTurn) ∧
    (g.seqBreak = false → g.abort = true → exec .takeSegmentFlags s = .next
      (State.unwind
        { s.Stepping c with
          rx := s.rx.set c { s.rxOf c with ingress := gs }
          table := s.table.set c { loaded with
            stats := { (s.ch c).stats with aborted := min 65535 ((s.ch c).stats.aborted + 1) } } }
        c true .await).endTurn) ∧
    (g.seqBreak = false → g.abort = false → g.som = true →
      exec .takeSegmentFlags s = .next (kept.fault c .ragged .none true).endTurn) ∧
    (g.seqBreak = false → g.abort = false → g.som = false →
      let u := { kept with
        rx := s.rx.set c { s.rxOf c with ingress := gs, inUse := some { rest := g.payload, eom := g.eom } } }
      (g.payload ≠ [] → exec .takeSegmentFlags s = .next u) ∧
      (g.payload = [] → exec .takeSegmentFlags s = .next (s.finishStep u c)))

/-- What follows a step that took the part from `before` to `s`: nothing while bytes are left or a close is owed. A segment used
up without EOM frees its slot, ends the turn and flushes the pending bytes when no segment waits. At its EOM the message ends
cleanly, its pending bytes in a terminal segment if it has output, its bank released, output-started kept (log 9); or it faults
RAGGED, with none of the step's output emitted and no scope pushed by it. That the step's counts stand, and the depth that the
fault reports, are log 42; that the EOM is considered after the whole cascade of closes, log 44. What an unwind does to
output-started is log 9 too. -/
def Obligations.SegmentEndIsConsidered : Prop :=
  ∀ (before s : State) (c : ChannelNo) (rest : List Byte) (eom : Bool), (s.rxOf c).inUse = some { rest := rest, eom := eom } →
    (rest ≠ [] ∨ (s.ch c).OwesClose → before.finishStep s c = s) ∧
    (rest = [] → ¬ (s.ch c).OwesClose → eom = false → before.finishStep s c =
      { s with
        turn := none
        rx := s.rx.set c { s.rxOf c with inUse := none }
        tx := s.tx.set c (if (s.rxOf c).ingress = [] then (s.txOf c).flush else s.txOf c) }) ∧
    (rest = [] → eom = true → (s.ch c).EndsCleanly → before.finishStep s c =
      { s with
        turn := none
        rx := s.rx.set c { s.rxOf c with inUse := none }
        tx := s.tx.set c
          (if (s.ch c).outputStarted = true then
            { s.txOf c with
              egress := (s.txOf c).egress ++
                [{ payload := (s.txOf c).pendingBytes, som := !(s.txOf c).segmentSent, eom := true, abort := false }]
              segmentSent := true, pendingBytes := [], flushPending := false }
          else s.txOf c)
        table := s.table.set c { s.ch c with
          state := .await, bound := none
          stats := { (s.ch c).stats with completed := min 65535 ((s.ch c).stats.completed + 1) } }
        policy := match (s.ch c).bound with
          | none => s.policy
          | some b => s.policy.release b.bank }) ∧
    (rest = [] → ¬ (s.ch c).OwesClose → eom = true → ¬ (s.ch c).EndsCleanly →
      before.finishStep s c = (State.fault
        { s with
          tx := s.tx.set c (before.txOf c)
          table := s.table.set c { s.ch c with
            outputStarted := (before.ch c).outputStarted
            resident := (s.ch c).resident.take (before.ch c).resident.length } }
        c .ragged .none true).endTurn)

/-! ### Headers -/

/-- The tests of a header on its own, in order; the test and deduction against a definite scope; the deduction of a closed
indefinite child. -/
def Obligations.HeaderTestsInOrder : Prop :=
  (∀ h : Header,
    (h.reserved ≠ 0 → headerFault h = some .reservedBits) ∧
    (h.reserved = 0 → h.type = 0 → (h.form = .container ∨ h.length ≠ 0) → headerFault h = some .badEnd) ∧
    (h.reserved = 0 → h.type ≠ 0 → h.form = .leaf → h.length = 0xFFFF → headerFault h = some .leafIndefinite) ∧
    (h.reserved = 0 → (h.type ≠ 0 ∨ (h.form = .leaf ∧ h.length = 0)) → ¬ (h.form = .leaf ∧ h.length = 0xFFFF) →
      headerFault h = none)) ∧
  (∀ (h : Header) (r : Nat),
    ScopeMode.indefinite.deductChild h = some .indefinite ∧
    (h.length ≠ 0xFFFF → (ScopeMode.definite r).deductChild h =
      if r < 4 + h.length.toNat then none else some (.definite (r - (4 + h.length.toNat)))) ∧
    (h.length = 0xFFFF → (ScopeMode.definite r).deductChild h = if r < 4 then none else some (.definite r))) ∧
  ∀ r n : Nat, ScopeMode.indefinite.deductTotal n = some .indefinite ∧
    (ScopeMode.definite r).deductTotal n = if r < n then none else some (.definite (r - n))

/-- A header that fails a test faults its channel MALFORMED with the reason of the first that fails: its own tests, a stray
End record, an overrun of its definite scope. Bytes short of a header are collected (log 6). -/
def Obligations.HeaderFaultsInOrder : Prop :=
  (∀ (s : State) (c : ChannelNo) (got taken : List Byte) (b : Byte) (rest : List Byte) (eom : Bool) (h : Header),
    s.HeaderDue c got taken b rest eom h →
    let faulted := fun r => Host.Outcome.next (φ := Fault) (ρ := Refusal)
      ((s.Stepping c).fault c .malformed r true).endTurn
    (∀ r, headerFault h = some r → exec .completeHeader s = faulted r) ∧
    (headerFault h = none → h.isEnd = true → (∀ e, (s.ch c).resident.getLast? = some e → e.mode ≠ .indefinite) →
      exec .completeHeader s = faulted .strayEnd) ∧
    (headerFault h = none → h.isEnd = false →
      (∃ e, (s.ch c).resident.getLast? = some e ∧ e.mode.deductChild h = none) →
      exec .completeHeader s = faulted .overrun)) ∧
  ∀ (s : State) (c : ChannelNo) (got taken : List Byte) (eom : Bool), s.servedFor .completeHeader = some c →
    (s.ch c).parse = .header got → (s.rxOf c).inUse = some { rest := taken, eom := eom } → got.length + taken.length ≤ 3 →
    exec .completeHeader s = .next (s.finishStep
      { s.Stepping c with
        rx := s.rx.set c { s.rxOf c with inUse := some { rest := [], eom := eom } }
        table := s.table.set c { s.ch c with parse := .header (got ++ taken) } } c)

/-- What a lookup returns: the action, the remap type and the count index of the bound bank's entry with the bound set and the
record's type, or the set's default action with neither. What each action asks for a record by its form and length, and how
records inside VERBATIM and DISCARD scopes are handled; `type` is the type remapped. That an indefinite container opens a
scope under PASS, whichever policy gives it, is log 46. -/
def Obligations.ActionsByFormAndLength : Prop :=
  (∀ (s : State) (c : ChannelNo) (bank : BankName) (set : Fin 8) (type : RecType),
    (s.ch c).bound = some { bank := bank, set := set } →
    let b := s.policy.bank bank
    (b.Ordered → ∀ e ∈ b.entries, e.set = set → e.type = type →
      s.lookupFor c type = { action := e.action, remap := e.remap, countIndex := e.countIndex }) ∧
    ((∀ e ∈ b.entries, ¬ (e.set = set ∧ e.type = type)) → s.lookupFor c type =
      { action := match b.defaults[set] with
          | .pass => .pass
          | .descend => .descend
          | .drop => .drop
        remap := none
        countIndex := none })) ∧
  ∀ (h : Header) (type : RecType) (limit : Nat), headerFault h = none →
    let n := h.length.toNat
    let carried := fun t => Handling.bulk (some (Header.make h.form t h.length)) n 0
    let copied := fun t => Handling.scope .verbatim (some (Header.make .container t 0xFFFF))
    (h.length ≠ 0xFFFF →
      actionHandling h type .pass = carried type ∧ actionHandling h type .drop = .bulk none 0 n ∧
      verbatimHandling h = carried h.type ∧ discardHandling h = .bulk none 0 n) ∧
    (h.length = 0xFFFF →
      actionHandling h type .pass = copied type ∧ actionHandling h type .drop = .scope .discard none ∧
      verbatimHandling h = copied h.type ∧ discardHandling h = .scope .discard none) ∧
    (h.form = .leaf ∨ h.length = 0 → actionHandling h type .descend = carried type) ∧
    (h.form = .container → h.length ≠ 0 →
      actionHandling h type .descend = .scope .filter (some (Header.make .container type 0xFFFF))) ∧
    (h.form = .leaf → actionHandling h type (.truncate limit) =
      .bulk (some (Header.make .leaf type (BitVec.ofNat 16 (min n limit)))) (min n limit) (n - min n limit)) ∧
    (h.form = .container → actionHandling h type (.truncate limit) = actionHandling h type .pass)

/-- A record that opens no scope: its hit is counted, its header emitted if it has one, its size deducted from and accounted
to the innermost scope, and its payload is to be copied and skipped. Without room for the header the step is not taken, and
three bytes of the header stay collected (log 6). -/
def Obligations.RecordsAreCarriedInBulk : Prop :=
  ∀ (s : State) (c : ChannelNo) (got taken : List Byte) (b : Byte) (rest : List Byte) (eom : Bool) (h : Header)
    (emit : Option Header) (copy skip : Nat) (looked : Bool) (index : Option (Fin 256)),
    s.HeaderDue c got taken b rest eom h → s.Admits c h → s.Handled c h (.bulk emit copy skip) looked index →
    (emit = none ∨ s.Room c 4 → exec .completeHeader s = .next (s.finishStep
      { s.HeaderTaken c rest eom with
        counters := s.Counted index 1 (4 + h.length.toNat)
        tx := s.Emitted c emit
        table := s.table.set c { s.ch c with
          resident := (s.ch c).charged h (4 + h.length.toNat)
          parse := if 0 < copy then .copy copy skip else if 0 < skip then .skip skip else .header []
          outputStarted := (s.ch c).outputStarted || emit.isSome } } c)) ∧
    (emit ≠ none → ¬ s.Room c 4 → exec .completeHeader s = .next (s.HeaderWaits c (got ++ taken) b rest eom))

/-- The checks before a push, in order; and a record that opens a scope: it is counted, and the scope is pushed at once, or
waits for a spill of half the window (an EOM after the header's last byte then waits too, log 45), or is degraded if its
container is definite, or faults with the kind of the failing check. Without room for a header the step is not taken, and
three bytes of the header stay collected (log 6). -/
def Obligations.RecordsOpenScopes : Prop :=
  (∀ (ch : Channel) (k : Backing),
    let d := ch.resident.length + ch.spilled
    (ch.config.maxDepth < d + 1 → pushCheck ch k = some .depth) ∧
    (d + 1 ≤ ch.config.maxDepth → ch.config.windowSize = 0 → pushCheck ch k = some .noBacking) ∧
    (d + 1 ≤ ch.config.maxDepth → 0 < ch.config.windowSize → ch.resident.length = ch.config.windowSize →
      (ch.spillInvalid = true ∨ (k ≠ .ready ∧ k ≠ .suspect)) → pushCheck ch k = some .noBacking) ∧
    (d + 1 ≤ ch.config.maxDepth → 0 < ch.config.windowSize →
      (ch.resident.length < ch.config.windowSize ∨ (ch.spillInvalid = false ∧ (k = .ready ∨ k = .suspect))) →
      pushCheck ch k = none)) ∧
  ∀ (s : State) (c : ChannelNo) (got taken : List Byte) (b : Byte) (rest : List Byte) (eom : Bool) (h : Header)
    (d : Disposition) (emit : Option Header) (looked : Bool) (index : Option (Fin 256)),
    s.HeaderDue c got taken b rest eom h → s.Admits c h → s.Handled c h (.scope d emit) looked index →
    let n := h.length.toNat
    let definite : Bool := h.length != 0xFFFF
    let p : PendingPush :=
      { entry := { type := h.type, disposition := d, mode := if definite then .definite n else .indefinite,
                   consumed := 0, looked := looked }
        emit := emit, refused := false }
    let u := { s.HeaderTaken c rest eom with
      counters := s.Counted index 1 (if definite then 4 + n else 0)
      table := s.table.set c { s.ch c with parse := .header [], resident := (s.ch c).deducted h } }
    let check := pushCheck (s.ch c) s.spill.backing
    let w := (s.ch c).config.windowSize
    let degradable : Prop := d = .filter ∧ definite = true
    (check = none → (s.ch c).resident.length < w → emit = none ∨ s.Room c 4 →
      exec .completeHeader s = .next (s.finishStep (u.Pushed c p) c)) ∧
    (check = none → w ≤ (s.ch c).resident.length → exec .completeHeader s = .next
      { u with
        turn := none
        spill := { s.spill with
          queue := s.spill.queue ++ [{ channel := c, kind := .spill, count := w / 2, start := (s.ch c).spilled }] }
        table := u.table.set c { u.ch c with state := .spillWait, pendingPush := some p } }) ∧
    (∀ k, check = some k → degradable → s.Room c 4 → ∀ e, emit = some e →
      exec .completeHeader s = .next (s.finishStep (u.Degraded c p e.type n k) c)) ∧
    (∀ k, check = some k → ¬ degradable → exec .completeHeader s = .next (u.fault c k .none true).endTurn) ∧
    ((check = none ∧ (s.ch c).resident.length < w ∧ emit ≠ none) ∨ (check ≠ none ∧ degradable) → ¬ s.Room c 4 →
      exec .completeHeader s = .next (s.HeaderWaits c (got ++ taken) b rest eom))

/-- A pending push is carried out when its spill has completed, and degraded with reason NO_BACKING when its spill was refused;
without room for the header it waits. -/
def Obligations.PendingPushIsResolved : Prop :=
  (∀ (s : State) (c : ChannelNo) (p : PendingPush), s.servedFor .carryOutPush = some c →
    (s.ch c).pendingPush = some p →
    (p.emit = none ∨ s.Room c 4 →
      exec .carryOutPendingPush s = .next (s.finishStep ((s.Stepping c).Pushed c p) c)) ∧
    (p.emit ≠ none → ¬ s.Room c 4 → exec .carryOutPendingPush s = .next (s.StepWaits c))) ∧
  ∀ (s : State) (c : ChannelNo) (p : PendingPush) (h : Header) (n : Nat), s.servedFor .degradePush = some c →
    (s.ch c).pendingPush = some p → p.emit = some h → p.entry.mode = .definite n →
    (s.Room c 4 →
      exec .degradePendingPush s = .next (s.finishStep ((s.Stepping c).Degraded c p h.type n .noBacking) c)) ∧
    (¬ s.Room c 4 → exec .degradePendingPush s = .next (s.StepWaits c))

/-! ### Closes -/

/-- The completion of a close: LATE_OVERRUN when a definite parent has too few bytes left; else the End record is emitted
unless the scope is a DISCARD one, the total of a looked-up indefinite scope is counted, and the parent is charged. -/
def Obligations.CloseIsCompleted : Prop :=
  ∀ (s : State) (c : ChannelNo) (e : ScopeEntry),
    let total := 4 + e.consumed + (if e.mode = .indefinite then 4 else 0)
    ((s.ch c).ClosesLate e → s.finishClose c e = (s.fault c .malformed .lateOverrun true).endTurn) ∧
    (¬ (s.ch c).ClosesLate e → s.finishClose c e = s.finishStep
      { s with
        tx := if e.disposition = .discard then s.tx else s.tx.set c ((s.txOf c).hand [0, 0, 0, 0])
        counters :=
          if e.mode = .indefinite ∧ e.looked = true then s.Counted (s.lookupFor c e.type).countIndex 0 total
          else s.counters
        table := s.table.set c { s.ch c with
          parse := .header []
          outputStarted := (s.ch c).outputStarted || e.disposition != .discard
          outputDepth := (s.ch c).outputDepth - (if e.disposition = .filter then 1 else 0)
          resident := ((s.ch c).modInnermost fun p =>
            { p with
              mode := if e.mode = .indefinite then (p.mode.deductTotal total).getD p.mode else p.mode
              consumed := min 16777215 (p.consumed + total) }).resident } } c)

/-- An End record inside an indefinite scope, and a definite scope that is owed its close, pop the innermost scope: the close
is completed at once, or the parent is filled back first, or faults NO_BACKING where no fill may be raised; without room it is
not begun, and three bytes of an End record stay collected (log 6). A close that waited for its fill is completed, unless it
needs room first (log 34). -/
def Obligations.ScopesAreClosed : Prop :=
  (∀ (s : State) (c : ChannelNo) (got taken : List Byte) (b : Byte) (rest : List Byte) (eom : Bool) (h : Header)
    (e : ScopeEntry), s.HeaderDue c got taken b rest eom h → headerFault h = none → h.isEnd = true →
    (s.ch c).resident.getLast? = some e → e.mode = .indefinite →
    ∃ t, exec .completeHeader s = .next t ∧ ClosesTo t (s.HeaderWaits c (got ++ taken) b rest eom)
      { s.HeaderTaken c rest eom with
        table := s.table.set c { s.ch c with parse := .header [], resident := (s.ch c).resident.dropLast } } c e) ∧
  (∀ (s : State) (c : ChannelNo) (e : ScopeEntry), s.servedFor .beginClose = some c →
    (s.ch c).resident.getLast? = some e →
    ∃ t, exec .beginClose s = .next t ∧ ClosesTo t (s.StepWaits c)
      { s.Stepping c with table := s.table.set c { s.ch c with resident := (s.ch c).resident.dropLast } } c e) ∧
  ∀ (s : State) (c : ChannelNo) (e : ScopeEntry), s.servedFor .completeClose = some c →
    (s.ch c).parse = .closePending e →
    ((s.ch c).ClosesLate e ∨ e.disposition = .discard ∨ s.Room c 4 →
      exec .completeClose s = .next ((s.Stepping c).finishClose c e)) ∧
    (¬ (s.ch c).ClosesLate e → e.disposition ≠ .discard → ¬ s.Room c 4 →
      exec .completeClose s = .next (s.StepWaits c))

/-! ### Payload -/

/-- A unit joins the assembler's pending bytes, and 64 of them are closed into a segment, which carries SOM if it is the
message's first; a flush closes the pending bytes if an ordinary slot is free and else marks them. No byte is lost or
reordered. -/
def Obligations.AssemblerClosesSegments : Prop :=
  ∀ (t : TxChannel) (unit : List Byte),
    (t.hand unit).stream = t.stream ++ unit ∧ t.flush.stream = t.stream ∧
    (t.pendingBytes.length + unit.length < 64 → t.hand unit = { t with pendingBytes := t.pendingBytes ++ unit }) ∧
    (64 ≤ t.pendingBytes.length + unit.length → t.hand unit =
      { t with
        egress := t.egress ++
          [{ payload := (t.pendingBytes ++ unit).take 64, som := !t.segmentSent, eom := false, abort := false }]
        segmentSent := true, flushPending := false, pendingBytes := (t.pendingBytes ++ unit).drop 64 }) ∧
    (t.pendingBytes = [] → t.flush = t) ∧
    (t.pendingBytes ≠ [] → (t.egress.filter fun g => !g.eom && !g.abort).length < 7 → t.flush =
      { t with
        egress := t.egress ++ [{ payload := t.pendingBytes, som := !t.segmentSent, eom := false, abort := false }]
        segmentSent := true, flushPending := false, pendingBytes := [] }) ∧
    (t.pendingBytes ≠ [] → 7 ≤ (t.egress.filter fun g => !g.eom && !g.abort).length →
      t.flush = { t with flushPending := true })

/-- A SKIP run drops the bytes that lie within its count. A COPY run hands the assembler, byte by byte and in order, the longest
run of bytes within its count that have room; one that stops for room blocks the channel in the same event (log 7). -/
def Obligations.PayloadRunsTakeBytes : Prop :=
  (∀ (s : State) (c : ChannelNo) (n : Nat) (rest : List Byte) (eom : Bool), s.servedFor .payloadRun = some c →
    (s.ch c).parse = .skip n → (s.rxOf c).inUse = some { rest := rest, eom := eom } →
    exec .takePayloadRun s = .next (s.finishStep
      { s.Stepping c with
        rx := s.rx.set c { s.rxOf c with inUse := some { rest := rest.drop n, eom := eom } }
        table := s.table.set c { s.ch c with
          parse := if rest.length < n then .skip (n - rest.length) else .header [] } } c)) ∧
  ∀ (s : State) (c : ChannelNo) (n m : Nat) (rest : List Byte) (eom : Bool), s.servedFor .payloadRun = some c →
    (s.ch c).parse = .copy n m → (s.rxOf c).inUse = some { rest := rest, eom := eom } →
    ∃ k, k ≤ n ∧ k ≤ rest.length ∧
      let handed := fun j => (rest.take j).foldl (fun t b => t.hand [b]) (s.txOf c)
      let started := fun j : Nat => (s.ch c).outputStarted || decide (0 < j)
      let u := { s.Stepping c with
        rx := s.rx.set c { s.rxOf c with inUse := some { rest := rest.drop k, eom := eom } }
        tx := s.tx.set c (handed k)
        table := s.table.set c { s.ch c with
          outputStarted := started k
          parse := if k < n then .copy (n - k) m else if 0 < m then .skip m else .header [] } }
      (∀ j < k, (handed j).Room (started j) 1) ∧
      (k = n ∨ k = rest.length → exec .takePayloadRun s = .next (s.finishStep u c)) ∧
      (k < n → k < rest.length → ¬ (handed k).Room (started k) 1 ∧ exec .takePayloadRun s = .next
        { u with turn := none, table := u.table.set c { u.ch c with egressBlocked := true } })

/-! ### The Spill Port -/

/-- With the wires free and a memory fitted, the port takes the pending probe first, then the oldest fill, then the oldest
spill; each transfer's select periods have the command, address and bytes of its kind. Without a memory it takes nothing, and
the wires rest with SSEL_N high, SCK and SDO low. A select period sends the command byte, the address most significant byte
first and its data, with SDO low for the data of a read; its bits go most significant first (the order of levels at its ends
is log 40). What a read receives is SDI at the rising edges of SCK after those of the command and the address, most
significant bit first. The strap rate selects the clock's divider. The pattern's last two bytes are a free value (log 29). -/
def Obligations.JobsAreTakenInOrder : Prop :=
  (∀ n : BitVec 16, (probePattern n).length = 8 ∧
    (probePattern n).take 6 = [0x5A, 0xA5] ++ wordBytes n ++ wordBytes (~~~n)) ∧
  (∀ (command : Byte) (address : BitVec 16) (data : List Byte) (n : Nat),
    let high : Byte := BitVec.ofNat 8 (address.toNat / 256)
    let low : Byte := BitVec.ofNat 8 address.toNat
    SelectPeriod.sent { command := command, address := address, dataOut := data, dataCount := data.length } =
      [command, high, low] ++ data ∧
    SelectPeriod.sent { command := command, address := address, dataOut := [], dataCount := n } =
      [command, high, low] ++ List.replicate n 0) ∧
  (∀ p : SelectPeriod, p.levels =
    (p.sent.flatMap byteBits).flatMap (fun b =>
      [{ sselN := false, sck := false, sdo := b }, { sselN := false, sck := true, sdo := b }]) ++
      [{ sselN := false, sck := false, sdo := false }, { sselN := true, sck := false, sdo := false }]) ∧
  (∀ b : Byte, (byteBits b).length = 8 ∧ ∀ i < 8, (byteBits b)[i]? = some (b.getLsbD (7 - i))) ∧
  (∀ (p : SelectPeriod) (sdi : List Bool), sdi.length = p.levels.length → p.Hears sdi (p.received sdi)) ∧
  (∀ s : State, s.spill.inFlight = none →
    s.spill.levels = [{ sselN := true, sck := false, sdo := false }] ∧
    (s.spill.backing = .absent → exec .takeJob s = .next s)) ∧
  [0, 1, 2, 3].map sckDivider = [2, 4, 8, 16] ∧
  ∀ s : State, s.spill.inFlight = none → s.spill.backing ≠ .absent →
    let address := fun j : Job => BitVec.ofNat 16 (j.channel.val * 512 + 8 * j.start)
    (s.spill.pendingProbe = true → exec .takeJob s = .next
      { s with spill := { s.spill with
          probeCounter := s.spill.probeCounter + 1
          inFlight := some (.probe
            { command := 0x02, address := 0x2000, dataOut := probePattern (s.spill.probeCounter + 1), dataCount := 8 }
            { command := 0x03, address := 0x2000, dataOut := [], dataCount := 8 }) } }) ∧
    (∀ before j after, s.spill.pendingProbe = false → s.spill.queue = before ++ j :: after → j.kind = .fill →
      (∀ x ∈ before, x.kind = .spill) → exec .takeJob s = .next
      { s with spill := { s.spill with
          queue := before ++ after
          inFlight := some (.data j { command := 0x03, address := address j, dataOut := [], dataCount := 8 * j.count }) } }) ∧
    (∀ j after, s.spill.pendingProbe = false → s.spill.queue = j :: after → (∀ x ∈ j :: after, x.kind = .spill) →
      exec .takeJob s = .next
      { s with spill := { s.spill with
          queue := after
          inFlight := some (.data j
            { command := 0x02, address := address j
              dataOut := serializeAll j.channel j.start ((s.ch j.channel).resident.take j.count)
              dataCount := 8 * j.count }) } })

/-- A completed spill moves the k outermost scopes of a waiting channel to the memory and returns the channel to IN_MESSAGE. A
channel in DRAIN takes the completion of either kind of job as its exit. -/
def Obligations.SpillMovesTheOutermostScopes : Prop :=
  ∀ (s : State) (j : Job) (p : SelectPeriod), s.spill.inFlight = some (.data j p) →
    let u := { s with spill := { s.spill with inFlight := none } }
    (j.kind = .spill → (s.ch j.channel).state = .spillWait → exec .spillCompletion s = .next
      { u with table := s.table.set j.channel { s.ch j.channel with
          resident := (s.ch j.channel).resident.drop j.count
          spilled := (s.ch j.channel).spilled + j.count
          state := .inMessage } }) ∧
    (j.kind = .spill → (s.ch j.channel).state = .drain →
      ∃ t, exec .spillCompletion s = .next t ∧ LeavesDrain t u j.channel) ∧
    ∀ sdi : List Bool, j.kind = .fill → (s.ch j.channel).state = .drain → sdi.length = p.levels.length →
      ∃ t, exec (.fillCompletion sdi) s = .next t ∧ LeavesDrain t u j.channel

/-- A completed fill whose entries all verify becomes the resident list, clears the failure count and turns SUSPECT into READY
with a notice; the entries are those of the bytes that SDI carries. One with a bad entry faults its channel FILL_CHECK, raises the count, and turns READY into SUSPECT and SUSPECT
into LOST. -/
def Obligations.FillIsAllOrNothing : Prop :=
  ∀ (s : State) (j : Job) (p : SelectPeriod) (sdi : List Bool) (read : List Byte), s.spill.inFlight = some (.data j p) →
    j.kind = .fill → (s.ch j.channel).state = .fillWait → p.Hears sdi read →
    let u := { s with spill := { s.spill with inFlight := none } }
    (∀ es, verifyAll j.channel j.count j.start read = some es →
      let v := { u with
        table := s.table.set j.channel { s.ch j.channel with
          resident := es, spilled := (s.ch j.channel).spilled - j.count, state := .inMessage }
        spill := { u.spill with
          failures := 0, backing := if s.spill.backing = .suspect then .ready else s.spill.backing } }
      exec (.fillCompletion sdi) s =
        .next (if s.spill.backing = .suspect then v.queueNotice (.backingState .ready 0) else v)) ∧
    (verifyAll j.channel j.count j.start read = none →
      let f := u.fault j.channel .fillCheck .none true
      let n := min 2 (s.spill.failures + 1)
      let v := { f with spill := { f.spill with failures := n } }
      (s.spill.backing = .ready → exec (.fillCompletion sdi) s = .next
        (State.queueNotice { v with spill := { v.spill with backing := .suspect } } (.backingState .suspect n))) ∧
      (s.spill.backing = .suspect → exec (.fillCompletion sdi) s = .next v.enterLost) ∧
      (s.spill.backing ≠ .ready → s.spill.backing ≠ .suspect → exec (.fillCompletion sdi) s = .next v))

/-- The entry into LOST: the state, then the marking of the channels with spilled scopes, then the notice, then the refusal of
the queued jobs, oldest first. A refused spill leaves a definite FILTER scope to be degraded and faults any other; a refused
fill faults. -/
def Obligations.LostRefusesWaitingJobs : Prop :=
  (∀ s : State,
    let t := State.queueNotice
      { s with
        spill := { s.spill with backing := .lost }
        table := Vector.ofFn fun c =>
          if c ≠ s.straps.mgmtSel ∧ 0 < (s.ch c).spilled then { s.ch c with spillInvalid := true } else s.ch c }
      (.backingState .lost s.spill.failures)
    s.enterLost = s.spill.queue.foldl State.refuseJob { t with spill := { t.spill with queue := [] } }) ∧
  ∀ (s : State) (j : Job),
    (∀ p, (s.ch j.channel).state = .spillWait → (s.ch j.channel).pendingPush = some p →
      ((∃ n, p.entry.disposition = .filter ∧ p.entry.mode = .definite n) → s.refuseJob j =
        { s with table := s.table.set j.channel { s.ch j.channel with
            state := .inMessage, pendingPush := some { p with refused := true } } }) ∧
      (p.entry.disposition ≠ .filter ∨ p.entry.mode = .indefinite →
        s.refuseJob j = s.fault j.channel .noBacking .none true)) ∧
    ((s.ch j.channel).state = .fillWait → s.refuseJob j = s.fault j.channel .noBacking .none true)

/-- A probe whose pattern SDI carries back in the read period makes the backing READY with a count of 0, and one that is not makes it LOST; a change of
state is noticed. The wires are free, and the outcome is handed to the command that waits for it; where the lane can, the
oldest notice is begun before the response is formed (log 30). -/
def Obligations.ProbeDecidesTheBacking : Prop :=
  ∀ (s : State) (w r : SelectPeriod) (written heard : List Bool) (read : List Byte),
    s.spill.inFlight = some (.probe w r) → written.length = w.levels.length → r.Hears heard read →
    let freed := fun t : State => { t with spill := { t.spill with inFlight := none, pendingProbe := false } }
    let ready := { s with spill := { s.spill with backing := .ready, failures := 0 } }
    let settled :=
      if read = w.dataOut then
        if s.spill.backing = .ready then freed ready else freed (ready.queueNotice (.backingState .ready 0))
      else if s.spill.backing = .lost then freed s else freed s.enterLost
    ∃ t, exec (.probeCompletion (written ++ heard)) s = .next t ∧ ProbeHandedOn t settled

/-- Scope entries serialized to the memory and read back from the same slots verify and are the same entries. An entry whose
check byte differs does not verify, nor does one whose check byte agrees and whose fields fail a test: disposition 3, a
definite scope that is no FILTER scope, type 0, remaining hex FFFF, a remaining other than 0 in an indefinite scope. One
entry that does not verify makes the whole fill bad. -/
def Obligations.ScopeEntriesReadBack : Prop :=
  (∀ (c : ChannelNo) (start : Nat) (es : List ScopeEntry), (∀ e ∈ es, e.Legal) →
    (serializeAll c start es).length = 8 * es.length ∧
      verifyAll c es.length start (serializeAll c start es) = some es) ∧
  (∀ (c : ChannelNo) (slot : Nat) (seven : List Byte) (check : Byte), seven.length = 7 →
    check ≠ checkByte seven c slot → ScopeEntry.verify c slot (seven ++ [check]) = none) ∧
  (∀ (c : ChannelNo) (slot : Nat) (b0 b1 b2 b3 b4 b5 b6 : Byte),
    let bad := ScopeEntry.verify c slot [b0, b1, b2, b3, b4, b5, b6, checkByte [b0, b1, b2, b3, b4, b5, b6] c slot] = none
    let disposition := b0.extractLsb' 6 2
    let indefinite := b0.getLsbD 5
    (disposition = 3 → bad) ∧ (indefinite = false → disposition ≠ 0 → bad) ∧
      (b0.extractLsb' 0 4 = 0 → b1 = 0 → bad) ∧ (b2 = 0xFF → b3 = 0xFF → bad) ∧
      (indefinite = true → ¬ (b2 = 0 ∧ b3 = 0) → bad)) ∧
  ∀ (c : ChannelNo) (k start i : Nat) (read : List Byte), i < k →
    ScopeEntry.verify c (start + i) ((read.drop (8 * i)).take 8) = none → verifyAll c k start read = none

/-! ### Management commands -/

/-- A completed record is checked in order: its code, its form, its arguments. A record that is no command is answered with a
response of type hex E00; a failed check of any command is answered with its completion code and changes nothing else. The
argument types are those of Figure 9-1, each with its byte count and its values. A response holds TAG where just one was
given, then RESULT with its completion code, then the result leaves; each leaf has its type's number, and its numbers most
significant byte first. That a TAG leaf of another length is none of the TAGs counted is log 22. -/
def Obligations.CommandsAreCheckedInOrder : Prop :=
  (∀ (s : State) (r : CommandRecord), s.mgmt.unit = .executing (.ready r) →
    (r.isContainer = false ∨ r.code.toNat < 0xF01 ∨ 0xF0E < r.code.toNat) →
    exec .unknownCommand s = .next (s.Responded (responseBytes 0xE00 r.tag .unknownCommand []))) ∧
  (∀ row ∈ commandTable, ChecksFirst row.1 row.2.1 row.2.2.1 row.2.2.2) ∧
  (∀ (r : CommandRecord) (required optional : List RecType),
    let malformed := r.nested = true ∨ r.arg Leaf.tag = none ∨ r.duplicates ≠ [] ∨ r.wrongLength = true
    let bad := r.foreign ≠ [] ∨
      (∃ a ∈ r.args, (a.type ≠ Leaf.tag ∧ a.type ∉ required ∧ a.type ∉ optional) ∨
        argInRange a.type (bytesNum a.value) = false) ∨
      ∃ t ∈ required, r.arg t = none
    (malformed → r.check required optional = some .malformedCommand) ∧
    (¬ malformed → bad → r.check required optional = some .badArgument) ∧
    (¬ malformed → ¬ bad → r.check required optional = none)) ∧
  (∀ t : RecType, argLength t =
    if t ∈ [Leaf.tag, Leaf.stallReload, Leaf.type, Leaf.remap, Leaf.limit, Leaf.position] then some 2
    else if t ∈ [Leaf.channel, Leaf.enabled, Leaf.policySet, Leaf.windowSize, Leaf.maxDepth, Leaf.clear, Leaf.role,
      Leaf.set, Leaf.action, Leaf.countIndex, Leaf.firstIndex, Leaf.count] then some 1
    else none) ∧
  (∀ v : Nat,
    (∀ t ∈ [Leaf.tag, Leaf.stallReload, Leaf.countIndex, Leaf.firstIndex], argInRange t v = true) ∧
    (∀ t ∈ [Leaf.enabled, Leaf.clear, Leaf.role], argInRange t v = decide (v ≤ 1)) ∧
    (∀ t ∈ [Leaf.policySet, Leaf.set], argInRange t v = decide (v ≤ 7)) ∧
    (∀ t ∈ [Leaf.type, Leaf.remap], argInRange t v = decide (1 ≤ v ∧ v ≤ 4095)) ∧
    argInRange Leaf.channel v = decide (v ≤ 15) ∧
    argInRange Leaf.windowSize v = decide (v ∈ [0, 2, 4, 8, 16]) ∧
    argInRange Leaf.maxDepth v = decide (1 ≤ v ∧ v ≤ 64) ∧
    argInRange Leaf.action v = decide (v ≤ 3) ∧
    argInRange Leaf.limit v = decide (v ≤ 65534) ∧
    argInRange Leaf.position v = decide (v ≤ 1023) ∧
    argInRange Leaf.count v = decide (1 ≤ v ∧ v ≤ 16)) ∧
  (∀ r : CommandRecord, (Leaf.tag ∈ r.duplicates → r.tag = none) ∧ (Leaf.tag ∉ r.duplicates → r.tag = r.arg Leaf.tag)) ∧
  (∀ (type : RecType) (t0 t1 : Byte) (result : Completion) (leaves : List Byte),
    let header := fun n : Nat =>
      [0x8#4 ++ type.extractLsb' 8 4, type.extractLsb' 0 8, BitVec.ofNat 8 (n / 256), BitVec.ofNat 8 n]
    let code := BitVec.ofNat 8 result.code
    responseBytes type none result leaves = header (5 + leaves.length) ++ [0, 0x02, 0, 1, code] ++ leaves ∧
    responseBytes type (some [t0, t1]) result leaves =
      header (11 + leaves.length) ++ [0, 0x01, 0, 2, t0, t1, 0, 0x02, 0, 1, code] ++ leaves) ∧
  [Completion.ok, .busy, .exists_, .notFound, .full, .locked, .badArgument, .badState, .unknownCommand,
    .malformedCommand].map Completion.code = [0, 1, 2, 3, 4, 5, 6, 7, 8, 9] ∧
  (∀ (type : RecType) (n v : Nat) (payload : List Byte),
    leafBytes type payload = [0x0#4 ++ type.extractLsb' 8 4, type.extractLsb' 0 8, BitVec.ofNat 8 (payload.length / 256),
      BitVec.ofNat 8 payload.length] ++ payload ∧
    numLeaf type n v = leafBytes type ((List.range n).reverse.map fun i => BitVec.ofNat 8 (v / 256 ^ i))) ∧
  [Leaf.tag, Leaf.result, Leaf.lost] = [0x001, 0x002, 0x003] ∧
  [Leaf.channel, Leaf.enabled, Leaf.policySet, Leaf.windowSize, Leaf.maxDepth, Leaf.stallReload, Leaf.clear] =
    [0x010, 0x011, 0x012, 0x013, 0x014, 0x015, 0x016] ∧
  [Leaf.role, Leaf.set, Leaf.type, Leaf.action, Leaf.remap, Leaf.countIndex, Leaf.limit, Leaf.position, Leaf.firstIndex,
    Leaf.count] = [0x020, 0x021, 0x022, 0x023, 0x024, 0x025, 0x026, 0x027, 0x028, 0x029] ∧
  [Leaf.backing, Leaf.failures, Leaf.bank, Leaf.staging, Leaf.entryCount, Leaf.default, Leaf.pair, Leaf.phase] =
    [0x035, 0x036, 0x037, 0x038, 0x03D, 0x03E, 0x03F, 0x034]

/-- IDENTIFY makes the checks of every command and no other, changes nothing, and is answered OK with the vendor, the part, the
revision, the latched straps and the phase; no command but a power-on reset changes the straps. -/
def Obligations.IdentifyAnswers : Prop :=
  ChecksFirst .identify 0xF01 [] [] ∧
  (∀ (s : State) (r : CommandRecord), s.Carries 0xF01 [] [] r → exec .identify s = .next (s.Answers r .ok
    ([0x00, 0x30, 0x00, 0x02, 0x3E, 0x51, 0x00, 0x31, 0x00, 0x02, 0x04, 0x16, 0x00, 0x32, 0x00, 0x01, 0x01] ++
      [0x00, 0x33, 0x00, 0x03, BitVec.ofNat 8 s.straps.mgmtSel.val, (if s.straps.spillFitted then 1 else 0),
        BitVec.ofNat 8 s.straps.spillRate.val] ++
      [0x00, 0x34, 0x00, 0x01, (if s.mgmt.phase = .operating then 1 else 0)]))) ∧
  ∀ (c : Instr) (s t : State), (∀ straps, c ≠ .powerOnReset straps) → exec c s = .next t → t.straps = s.straps

/-- STATUS and CHANNEL GET make the checks of every command and no other, and are answered OK with the leaves of their rules, in
order, as the state stands, each leaf given by its bytes with the codes it holds; STATUS with CLEAR 1 sets the link error
counts to 0 in the same event, so an error counted before it is in its answer and one counted after it stands as 1. -/
def Obligations.StatusAndChannelGetAnswer : Prop :=
  ChecksFirst .status 0xF02 [] [Leaf.clear] ∧ ChecksFirst .channelGet 0xF04 [Leaf.channel] [] ∧
  (∀ (s : State) (r : CommandRecord), s.Carries 0xF02 [] [Leaf.clear] r →
    let one := fun n : Nat => BitVec.ofNat 8 n
    let two := fun n : Nat => [one (n / 256), one n]
    let t := s.Answers r .ok
      ([0, 0x34, 0, 1, one s.mgmt.phase.code, 0, 0x35, 0, 1, one s.spill.backing.code, 0, 0x36, 0, 1, one s.spill.failures,
          0, 0x37, 0, 1, one s.policy.active.code, 0, 0x38, 0, 1, one s.policy.staging.code] ++
        [0, 0x39, 0, 2, one s.policy.bankA.refs, one s.policy.bankB.refs,
          0, 0x3A, 0, 2, one s.upPort.code, one s.dnPort.code] ++
        ([0, 0x3B, 0, 6] ++ two s.linkErrors.crc ++ two s.linkErrors.badHeader ++ two s.linkErrors.overrun) ++
        [0, 0x3C, 0, 2, one s.mgmt.notices.length, one s.mgmt.lost])
    (r.value Leaf.clear = some 1 →
      exec .status s = .next { t with linkErrors := { crc := 0, badHeader := 0, overrun := 0 } } ∧
      ∀ u : List Byte, s.upPort = .up → 2 ≤ u.length → u.drop (u.length - 2) ≠ wordBytes (crc16 (u.take (u.length - 2))) →
        exec (.segmentReceived u) { t with linkErrors := { crc := 0, badHeader := 0, overrun := 0 } } =
          .next { t with linkErrors := { crc := 1, badHeader := 0, overrun := 0 } }) ∧
    (r.value Leaf.clear ≠ some 1 → exec .status s = .next t)) ∧
  (∀ (s : State) (r : CommandRecord), s.Carries 0xF04 [Leaf.channel] [] r →
    let c := r.channel
    let one := fun n : Nat => BitVec.ofNat 8 n
    let two := fun n : Nat => [one (n / 256), one n]
    let bit := fun b : Bool => if b then (1 : Byte) else 0
    (c ≠ s.straps.mgmtSel → exec .channelGet s = .next (s.Answers r .ok
      ([0, 0x11, 0, 1, bit (s.ch c).config.enabled, 0, 0x12, 0, 1, one (s.ch c).config.policySet.val,
          0, 0x13, 0, 1, one (s.ch c).config.windowSize, 0, 0x14, 0, 1, one (s.ch c).config.maxDepth] ++
        ([0, 0x15, 0, 2] ++ two (s.ch c).config.stallReload) ++ (s.ch c).StateBytes ++
        ([0, 0x41, 0, 2] ++ match (s.ch c).bound with
          | none => [0xFF, 0xFF]
          | some b => [one b.bank.code, one b.set.val]) ++
        [0, 0x42, 0, 3, one ((s.ch c).resident.length + (s.ch c).spilled), one (s.ch c).resident.length,
          one (s.ch c).spilled] ++
        [0, 0x43, 0, 5, bit (s.ch c).spillInvalid, bit (s.ch c).outputStarted, bit (s.ch c).degradedThisMessage,
          bit (s.ch c).egressBlocked, bit (s.rxOf c).unsync] ++
        ([0, 0x44, 0, 5] ++ match (s.ch c).parse with
          | .header collected => 0 :: two collected.length ++ two 0
          | .copy copy skip => 1 :: two copy ++ two skip
          | .skip skip => 2 :: two skip ++ two 0
          | .closePending _ => 3 :: two 0 ++ two 0) ++
        [0, 0x45, 0, 1, one (s.ch c).outputDepth] ++ ([0, 0x46, 0, 2] ++ two (s.ch c).stallTimer) ++
        ([0, 0x47, 0, 8] ++ two (s.ch c).stats.completed ++ two (s.ch c).stats.aborted ++ two (s.ch c).stats.faults ++
          two (s.ch c).stats.degrades) ++
        ([0, 0x48, 0, 2] ++ two (s.ch c).ordinal.toNat) ++
        [0, 0x49, 0, 2, one (s.ch c).lastFaultKind.code, one (s.ch c).lastFaultReason.code,
          0, 0x4A, 0, 1, one (s.rxOf c).expected.toNat]))) ∧
    (c = s.straps.mgmtSel → exec .channelGet s = .next (s.Answers r .ok
      ([0, 0x15, 0, 2] ++ two s.mgmt.stallReload ++ ([0, 0x46, 0, 2] ++ two s.mgmt.stallTimer) ++
        [0, 0x4A, 0, 1, one (s.rxOf c).expected.toNat])))) ∧
  [Phase.provisioning, .operating].map Phase.code = [0, 1] ∧ [BankName.a, .b].map BankName.code = [0, 1] ∧
  [Backing.absent, .untested, .ready, .suspect, .lost].map Backing.code = [0, 1, 2, 3, 4] ∧
  [StagingState.ready, .draining, .copying].map StagingState.code = [0, 1, 2] ∧
  [PortState.down, .up].map PortState.code = [0, 1] ∧
  [ChannelState.disabled, .held, .await, .inMessage, .spillWait, .fillWait, .drain].map ChannelState.code =
    [0, 1, 2, 3, 4, 5, 6] ∧
  [DrainExit.await, .disabled].map DrainExit.code = [0, 1] ∧
  [FaultKind.none, .malformed, .ragged, .gap, .depth, .noBacking, .fillCheck, .stall, .link].map FaultKind.code =
    [0, 1, 2, 3, 4, 5, 6, 7, 8] ∧
  [Reason.none, .reservedBits, .badEnd, .leafIndefinite, .strayEnd, .overrun, .lateOverrun].map Reason.code =
    [0, 1, 2, 3, 4, 5, 6]

/-- CHANNEL SET: the refusals in order; for the management channel the stall reload; for a data channel every field given is
written at once (log 31), and a disable or an enable acts by the channel's state. An enable in DRAIN does not mark the channel
unsynchronised (log 37), and a disable ends the turn of a channel that has no step left (log 13). -/
def Obligations.ChannelSetWritesAndActs : Prop :=
  ∀ (s : State) (r : CommandRecord),
    s.Carries 0xF03 [Leaf.channel]
      [Leaf.enabled, Leaf.policySet, Leaf.windowSize, Leaf.maxDepth, Leaf.stallReload] r →
    let c := r.channel
    let data : Prop := r.arg Leaf.enabled ≠ none ∨ r.arg Leaf.policySet ≠ none ∨ r.arg Leaf.windowSize ≠ none ∨
      r.arg Leaf.maxDepth ≠ none
    let locked : Prop := s.mgmt.phase = .operating ∧ (r.arg Leaf.windowSize ≠ none ∨ r.arg Leaf.maxDepth ≠ none ∨
      r.value Leaf.stallReload = some 0)
    let written : ChannelConfig :=
      { enabled := (r.value Leaf.enabled).elim (s.ch c).config.enabled (· == 1)
        policySet := (r.value Leaf.policySet).elim (s.ch c).config.policySet (Fin.ofNat 8 ·)
        windowSize := (r.value Leaf.windowSize).getD (s.ch c).config.windowSize
        maxDepth := (r.value Leaf.maxDepth).getD (s.ch c).config.maxDepth
        stallReload := (r.value Leaf.stallReload).getD (s.ch c).config.stallReload }
    let u := { s with table := s.table.set c { s.ch c with config := written } }
    let emptied := s.rx.set c { s.rxOf c with ingress := [] }
    let disabling := (s.ch c).config.enabled = true ∧ written.enabled = false
    let enabling := (s.ch c).config.enabled = false ∧ written.enabled = true
    let ok := fun t : State => exec .channelSet s = .next (t.Answers r .ok (t.ch c).StateBytes)
    (c = s.straps.mgmtSel → data → exec .channelSet s = .next (s.Answers r .badArgument [])) ∧
    ((c = s.straps.mgmtSel → ¬ data) → locked → exec .channelSet s = .next (s.Answers r .locked [])) ∧
    (c = s.straps.mgmtSel → ¬ data → ¬ locked → exec .channelSet s = .next
      (State.Answers { s with mgmt := { s.mgmt with stallReload := (r.value Leaf.stallReload).getD s.mgmt.stallReload } }
        r .ok [])) ∧
    (c ≠ s.straps.mgmtSel → ¬ locked →
      (¬ disabling → ¬ enabling → ok u) ∧
      (disabling →
        ((s.ch c).state = .held ∨ (s.ch c).state = .await → ok (State.settleTurn
          { u with rx := emptied, table := u.table.set c { u.ch c with state := .disabled } })) ∧
        ((s.ch c).state = .drain → ok (State.settleTurn
          { u with rx := emptied, table := u.table.set c { u.ch c with drainExit := .disabled } })) ∧
        ((s.ch c).state.messageOpen = true →
          ok (State.unwind { u with rx := emptied } c true .disabled).settleTurn)) ∧
      (enabling →
        ((s.ch c).state = .disabled → s.mgmt.phase = .provisioning →
          ok { u with table := u.table.set c { u.ch c with state := .held } }) ∧
        ((s.ch c).state = .disabled → s.mgmt.phase = .operating → ok
          { u with
            table := u.table.set c { u.ch c with state := .await }
            rx := s.rx.set c { s.rxOf c with unsync := true } }) ∧
        ((s.ch c).state = .drain → ok { u with table := u.table.set c { u.ch c with drainExit := .await } })))

/-- CHANNEL RESET unwinds an open message, empties the ingress buffer, clears the statistics, the ordinal and the fault record,
and marks the channel unsynchronised; a turn whose channel has no step left is over (log 13). It is answered at once, or when
the channel leaves DRAIN. -/
def Obligations.ChannelResetStartsOver : Prop :=
  ∀ (s : State) (r : CommandRecord), s.Carries 0xF05 [Leaf.channel] [] r →
    let c := r.channel
    let v := if (s.ch c).state.messageOpen = true then s.unwind c true .await else s
    let u := State.settleTurn
      { v with
        rx := v.rx.set c { v.rxOf c with ingress := [], unsync := true }
        table := v.table.set c { v.ch c with
          stats := { completed := 0, aborted := 0, faults := 0, degrades := 0 }
          ordinal := 0, lastFaultKind := .none, lastFaultReason := .none } }
    (c = s.straps.mgmtSel → exec .channelReset s = .next (s.Answers r .badArgument [])) ∧
    (c ≠ s.straps.mgmtSel → (v.ch c).state ≠ .drain →
      exec .channelReset s = .next (u.Answers r .ok (u.ch c).StateBytes)) ∧
    (c ≠ s.straps.mgmtSel → (v.ch c).state = .drain → exec .channelReset s = .next
      { u with mgmt := { u.mgmt with unit := .executing (.channelReset r.tag c) } })

/-- POLICY INSERT, POLICY DELETE and DEFAULT SET make the checks of every command, then their own checks in order, and then
edit the staging bank alone: an entry is placed or removed at the position its key gives, or one default action is set. -/
def Obligations.PolicyEditsTheStagingBank : Prop :=
  ChecksFirst .policyInsert 0xF06 [Leaf.set, Leaf.type, Leaf.action] [Leaf.remap, Leaf.countIndex, Leaf.limit] ∧
  ChecksFirst .policyDelete 0xF07 [Leaf.set, Leaf.type] [] ∧ ChecksFirst .defaultSet 0xF09 [Leaf.set, Leaf.action] [] ∧
  (∀ (s : State) (r : CommandRecord), s.Carries 0xF06 [Leaf.set, Leaf.type, Leaf.action]
      [Leaf.remap, Leaf.countIndex, Leaf.limit] r →
    let b := s.policy.bank s.policy.stagingBank
    let p := b.position r.setArg r.typeArg
    let truncates := r.value Leaf.action = some 3
    let limited := r.value Leaf.limit ≠ none
    let gives := fun e leaves => exec .policyInsert s = .next (s.Answers r e leaves)
    (¬ (truncates ↔ limited) → gives .badArgument []) ∧
    ((truncates ↔ limited) →
      (s.policy.staging ≠ .ready → gives .busy []) ∧
      (s.policy.staging = .ready →
        (b.find r.setArg r.typeArg ≠ none → gives .exists_ []) ∧
        (b.find r.setArg r.typeArg = none → 1024 ≤ b.entries.length → gives .full []) ∧
        (b.find r.setArg r.typeArg = none → b.entries.length < 1024 → ∀ a : Action,
          (r.value Leaf.action = some 0 → a = .pass) → (r.value Leaf.action = some 1 → a = .descend) →
          (r.value Leaf.action = some 2 → a = .drop) →
          (∀ n, truncates → r.value Leaf.limit = some n → a = .truncate n) →
          exec .policyInsert s = .next (State.Answers
            (s.Staged { b with
              entries := b.entries.take p ++
                { set := r.setArg, type := r.typeArg, action := a
                  remap := (r.value Leaf.remap).map (BitVec.ofNat 12 ·)
                  countIndex := (r.value Leaf.countIndex).map (Fin.ofNat 256 ·) } :: b.entries.drop p })
            r .ok (numLeaf Leaf.position 2 p ++ numLeaf Leaf.entryCount 2 (b.entries.length + 1))))))) ∧
  (∀ (s : State) (r : CommandRecord), s.Carries 0xF07 [Leaf.set, Leaf.type] [] r →
    let b := s.policy.bank s.policy.stagingBank
    let gives := fun e leaves => exec .policyDelete s = .next (s.Answers r e leaves)
    (s.policy.staging ≠ .ready → gives .busy []) ∧
    (s.policy.staging = .ready →
      (b.find r.setArg r.typeArg = none → gives .notFound []) ∧
      (b.find r.setArg r.typeArg ≠ none → exec .policyDelete s = .next (State.Answers
        (s.Staged { b with
          entries := b.entries.filter fun e => decide ¬(e.set = r.setArg ∧ e.type = r.typeArg) })
        r .ok (numLeaf Leaf.position 2 (b.position r.setArg r.typeArg) ++
          numLeaf Leaf.entryCount 2 (b.entries.length - 1)))))) ∧
  ∀ (s : State) (r : CommandRecord), s.Carries 0xF09 [Leaf.set, Leaf.action] [] r →
    let b := s.policy.bank s.policy.stagingBank
    let gives := fun e => exec .defaultSet s = .next (s.Answers r e [])
    (r.value Leaf.action = some 3 → gives .badArgument) ∧
    (r.value Leaf.action ≠ some 3 → s.policy.staging ≠ .ready → gives .busy) ∧
    ∀ (n : Nat) (a : DefaultAction), (n, a) ∈ [(0, DefaultAction.pass), (1, .descend), (2, .drop)] →
      r.value Leaf.action = some n → s.policy.staging = .ready → exec .defaultSet s = .next
        (State.Answers (s.Staged { b with defaults := b.defaults.set r.setArg a }) r .ok [])

/-- POLICY READ names its entry by key or by position, and its bank by the role it has now. It is refused for a name that is not
exactly one of the two, and BUSY for a staging bank being copied; else it answers OK or NOT_FOUND with the leaves of its
rule, and changes nothing else. An entry is found by its key, its position is the number of entries with lower keys, and its
leaves are given by their bytes. -/
def Obligations.PolicyReadReturnsAnEntry : Prop :=
  (∀ (b : Bank) (set : Fin 8) (type : RecType), b.Ordered →
    (∀ e, b.find set type = some e ↔ e ∈ b.entries ∧ e.set = set ∧ e.type = type) ∧
    b.position set type = (b.entries.filter fun e => decide (e.set < set ∨ (e.set = set ∧ e.type.toNat < type.toNat))).length) ∧
  (∀ e : PolicyEntry,
    let two := fun w : BitVec 16 => [w.extractLsb' 8 8, w.extractLsb' 0 8]
    e.leaves = [0, 0x21, 0, 1, BitVec.ofNat 8 e.set.val] ++ ([0, 0x22, 0, 2] ++ two (e.type.setWidth 16)) ++
      ([0, 0x23, 0, 1] ++ match e.action with
        | .pass => [(0 : Byte)]
        | .descend => [1]
        | .drop => [2]
        | .truncate _ => [3]) ++
      (match e.remap with
        | none => []
        | some t => [0, 0x24, 0, 2] ++ two (t.setWidth 16)) ++
      (match e.countIndex with
        | none => []
        | some i => [0, 0x25, 0, 1, BitVec.ofNat 8 i.val]) ++
      match e.action with
        | .truncate limit => [0, 0x26, 0, 2] ++ two (BitVec.ofNat 16 limit)
        | .pass | .descend | .drop => []) ∧
  [DefaultAction.pass, .descend, .drop].map DefaultAction.code = [0, 1, 2] ∧
  ∀ (s : State) (r : CommandRecord), s.Carries 0xF08 [Leaf.role] [Leaf.set, Leaf.type, Leaf.position] r →
    let n := if r.value Leaf.role = some 0 then s.policy.active else s.policy.stagingBank
    let b := s.policy.bank n
    let head := numLeaf Leaf.bank 1 n.code ++ numLeaf Leaf.entryCount 2 b.entries.length
    let busy := r.value Leaf.role ≠ some 0 ∧ s.policy.staging = .copying
    let byKey := r.arg Leaf.set ≠ none ∧ r.arg Leaf.type ≠ none ∧ r.arg Leaf.position = none
    let byPosition := r.arg Leaf.set = none ∧ r.arg Leaf.type = none ∧ r.arg Leaf.position ≠ none
    let default := numLeaf Leaf.default 1 b.defaults[r.setArg].code
    let gives := fun e leaves => exec .policyRead s = .next (s.Answers r e leaves)
    (¬ byKey → ¬ byPosition → gives .badArgument []) ∧
    (byKey ∨ byPosition → busy → gives .busy []) ∧
    (byKey → ¬ busy →
      (b.find r.setArg r.typeArg = none → gives .notFound (head ++ default)) ∧
      ∀ e, b.find r.setArg r.typeArg = some e →
        gives .ok (head ++ (numLeaf Leaf.position 2 (b.position r.setArg r.typeArg) ++ e.leaves) ++ default)) ∧
    (byPosition → ¬ busy → ∀ i, r.value Leaf.position = some i →
      (b.entries.length ≤ i → gives .notFound head) ∧
      ∀ e, b.entries[i]? = some e → gives .ok (head ++ (numLeaf Leaf.position 2 i ++ e.leaves)))

/-- COMMIT exchanges the roles; the former active bank drains while it has references, and is copied over otherwise. A release
lowers a bank's count, and the last one of a DRAINING bank begins the copy. The copy's completion makes the staging bank
equal to the active one and READY, with a notice. -/
def Obligations.CommitDrainsAndCopies : Prop :=
  ChecksFirst .commit 0xF0A [] [] ∧
  (∀ (s : State) (r : CommandRecord), s.Carries 0xF0A [] [] r →
    (s.policy.staging ≠ .ready → exec .commit s = .next (s.Answers r .busy [])) ∧
    (s.policy.staging = .ready →
      let staging := if (s.policy.bank s.policy.active).refs = 0 then StagingState.copying else .draining
      exec .commit s = .next (State.Answers
        { s with policy := { s.policy with active := s.policy.stagingBank, staging := staging } } r .ok
        (numLeaf Leaf.bank 1 s.policy.stagingBank.code ++ numLeaf Leaf.staging 1 staging.code)))) ∧
  (∀ (p : PolicyStore) (n : BankName), (p.release n).active = p.active ∧
    (p.release n).bank n = { p.bank n with refs := (p.bank n).refs - 1 } ∧ (p.release n).bank n.other = p.bank n.other ∧
    (n ≠ p.active → p.staging = .draining → (p.bank n).refs = 1 → (p.release n).staging = .copying) ∧
    (n = p.active ∨ p.staging ≠ .draining ∨ 1 < (p.bank n).refs → (p.release n).staging = p.staging)) ∧
  ∀ s : State, s.policy.staging = .copying →
    let active := s.policy.bank s.policy.active
    let b := { s.policy.bank s.policy.stagingBank with entries := active.entries, defaults := active.defaults }
    exec .copyCompletion s = .next (State.queueNotice
      { s with policy := { s.policy.setBank s.policy.stagingBank b with staging := .ready } }
      (.commitSettled s.policy.stagingBank))

/-- COUNTERS READ refuses a range beyond index 255 and else begins its pair reads. A pair read appends the pair's leaf, sets the
pair to 0 with clear, and goes on to the next index; the last one forms the OK response. -/
def Obligations.CountersAreReadPairByPair : Prop :=
  (∀ (s : State) (r : CommandRecord) (first n : Nat), s.Carries 0xF0B [Leaf.firstIndex, Leaf.count] [Leaf.clear] r →
    r.value Leaf.firstIndex = some first → r.value Leaf.count = some n →
    (255 < first + n - 1 → exec .countersRead s = .next (s.Answers r .badArgument [])) ∧
    (first + n - 1 ≤ 255 → exec .countersRead s = .next
      { s with mgmt := { s.mgmt with
          unit := .executing (.countersRead r.tag first n (decide (r.value Leaf.clear = some 1)) []) } })) ∧
  ∀ (s : State) (tag : Option (List Byte)) (i : Fin 256) (left : Nat) (clear : Bool) (leaves : List Byte),
    s.mgmt.unit = .executing (.countersRead tag i.val left clear leaves) →
    let u := { s with counters := if clear then s.counters.set i { records := 0, bytes := 0 } else s.counters }
    let read := leaves ++ leafBytes Leaf.pair
      (numBytes 1 i.val ++ numBytes 4 s.counters[i].records ++ numBytes 6 s.counters[i].bytes)
    (left ≤ 1 → exec .pairRead s = .next (u.Responded (responseBytes 0xE0B tag .ok read))) ∧
    (1 < left → exec .pairRead s = .next
      { u with mgmt := { s.mgmt with unit := .executing (.countersRead tag (i.val + 1) (left - 1) clear read) } })

/-- BACKING RESTORE requests a probe in LOST and is refused BAD_STATE otherwise. PROVISION CLOSE is refused LOCKED in
OPERATING and BAD_ARGUMENT for windows of more than 128 entries; else it allocates the windows, and requests a probe of an
UNTESTED memory or opens the part at once (log 24). -/
def Obligations.RestoreAndProvisioning : Prop :=
  (∀ (s : State) (r : CommandRecord), s.Carries 0xF0C [] [] r →
    (s.spill.backing ≠ .lost → exec .backingRestore s = .next (s.Answers r .badState [])) ∧
    (s.spill.backing = .lost → exec .backingRestore s = .next
      { s with
        spill := { s.spill with pendingProbe := true }
        mgmt := { s.mgmt with unit := .executing (.backingRestore r.tag) } })) ∧
  ∀ (s : State) (r : CommandRecord), s.Carries 0xF0D [] [] r →
    let u := { s with table := Vector.ofFn fun c => { s.ch c with window := s.AllocatedBase c } }
    (s.mgmt.phase = .operating → exec .provisionClose s = .next (s.Answers r .locked [])) ∧
    (s.mgmt.phase = .provisioning → 128 < s.WindowTotal →
      exec .provisionClose s = .next (s.Answers r .badArgument [])) ∧
    (s.mgmt.phase = .provisioning → s.WindowTotal ≤ 128 →
      (s.spill.backing = .untested → exec .provisionClose s = .next
        { u with
          spill := { s.spill with pendingProbe := true }
          mgmt := { s.mgmt with unit := .executing (.provisionClose r.tag) } }) ∧
      (s.spill.backing ≠ .untested → exec .provisionClose s = .next (u.Opened r.tag)))

/-- RESTART at every block: what each keeps and what each takes. The Management Unit takes it first; then come the events that
reach the other blocks before they take it, each acting as its command does, with their notices queued; then the other blocks
take it together (log 26). With no such event, which is the case from reset, it is one taking of all. A notice in progress
is sent to its end with nothing to lower (log 36). That no stall timer is armed after it is log 11, and that no turn is in
progress is log 13. -/
def Obligations.RestartKeepsTheConfiguration : Prop :=
  ∀ (s : State) (r : CommandRecord), s.Carries 0xF0E [] [] r →
    let u := { s with
      duringRestart := []
      rx := s.rx.set s.straps.mgmtSel { s.rxOf s.straps.mgmtSel with inUse := none }
      mgmt := { s.mgmt with
        unit := .responding
        response := some (responseBytes 0xE0E r.tag .ok [0x00, 0x34, 0x00, 0x01, 0x00])
        messageOpen := false, collector := Collector.empty, notices := [], lost := 0, phase := .provisioning
        returnMsg := s.mgmt.returnMsg.map fun m =>
          match m.kind with
          | .response => m
          | .notice _ => { m with kind := .notice 0 } } }
    ∃ v, CarriedOut (s.duringRestart.map RestartEvent.command) u v ∧ exec .restart s = .next
      { v with
        pointer := 15
        turn := none
        table := Vector.ofFn fun c =>
          if c = s.straps.mgmtSel then v.ch c
          else { Channel.powerOn with
            config := (v.ch c).config, state := if (v.ch c).config.enabled then .held else .disabled }
        tx := Vector.ofFn fun c =>
          if c = s.straps.mgmtSel then v.txOf c
          else if (v.ch c).state.messageOpen = true ∧ (v.ch c).outputStarted = true then
            { v.txOf c with
              egress := (v.txOf c).egress ++
                [{ payload := [], som := !(v.txOf c).segmentSent, eom := false, abort := true }]
              segmentSent := true, pendingBytes := [], flushPending := false }
          else { v.txOf c with pendingBytes := [], flushPending := false }
        rx := Vector.ofFn fun c =>
          if c = s.straps.mgmtSel then { v.rxOf c with unsync := true }
          else { v.rxOf c with unsync := true, inUse := none, ingress := [] }
        spill := { v.spill with
          queue := [], inFlight := none, pendingProbe := false, failures := 0
          backing := if v.spill.backing = .absent then .absent else .untested }
        policy := { v.policy with
          bankA := { v.policy.bankA with refs := 0 }
          bankB := { v.policy.bankB with refs := 0 }
          staging := if v.policy.staging = .ready then .ready else .copying }
        mgmt := { v.mgmt with stallTimer := 0, stallArmed := false } }

/-! ### Invariants -/

/-- The invariants hold right after a power-on reset, whatever straps it latches, and so at reset. -/
def Obligations.InvariantsHoldAtReset : Prop :=
  (∀ straps : Straps, (State.powerOn straps).SlotsOk ∧ (State.powerOn straps).CountsOk ∧ (State.powerOn straps).PolicyOk ∧
    (State.powerOn straps).ReferencesOk ∧ (State.powerOn straps).EgressOk ∧ (State.powerOn straps).StacksOk) ∧
  State.reset.SlotsOk ∧ State.reset.CountsOk ∧ State.reset.PolicyOk ∧ State.reset.ReferencesOk ∧ State.reset.EgressOk ∧
    State.reset.StacksOk

/-- Every step keeps the scope stacks: each channel's resident count within its window, its depth within the maximum, its
spilled count a multiple of half the window; and each spill or fill job with the one channel that waits for it. -/
def Obligations.StepsKeepStacksOk : Prop := ∀ s t : State, step s = .next t → s.StacksOk → t.StacksOk

/-- No step takes a count that saturates, a credit, the notice queue, the failure count, a stall timer or its reload out of its
range, nor a recorded argument out of its length. The reference counts are `StepsKeepReferencesOk`'s, the depths and window
counts `StepsKeepStacksOk`'s. -/
def Obligations.StepsKeepCountsOk : Prop := ∀ s t : State, step s = .next t → s.CountsOk → t.CountsOk

/-- Every step keeps both banks in strictly ascending order of key, within their capacity. -/
def Obligations.StepsKeepPolicyOk : Prop := ∀ s t : State, step s = .next t → s.PolicyOk → t.PolicyOk

/-- Every step keeps each bank's reference count equal to the number of open messages bound to it, at most 15, and a staging
bank referenced exactly while it is DRAINING. -/
def Obligations.StepsKeepReferencesOk : Prop := ∀ s t : State, step s = .next t → s.ReferencesOk → t.ReferencesOk

/-- Every step keeps the buffers within their slots: no credit is granted beyond the 4 slots of an ingress buffer, and no
message places a terminal segment in its egress buffer while one waits. -/
def Obligations.StepsKeepBuffersOk : Prop :=
  (∀ s t : State, step s = .next t → s.SlotsOk → t.SlotsOk) ∧
  ∀ s t : State, step s = .next t → s.EgressOk → t.EgressOk

end
end

