-- ==== Sys2Proof/Laws/Ops.lean ====
section
/-! SUPPORT. The frames of the shared operations: for each, one lemma for each part of the state it leaves alone. -/

namespace Sys2Proof.Machine

/-! ### queueNotice -/

@[simp] theorem State.queueNotice_straps (s : State) (n : Notice) : (s.queueNotice n).straps = s.straps := by simp only [State.queueNotice, State.modMgmt]
@[simp] theorem State.queueNotice_upPort (s : State) (n : Notice) : (s.queueNotice n).upPort = s.upPort := by simp only [State.queueNotice, State.modMgmt]
@[simp] theorem State.queueNotice_dnPort (s : State) (n : Notice) : (s.queueNotice n).dnPort = s.dnPort := by simp only [State.queueNotice, State.modMgmt]
@[simp] theorem State.queueNotice_linkErrors (s : State) (n : Notice) : (s.queueNotice n).linkErrors = s.linkErrors := by simp only [State.queueNotice, State.modMgmt]
@[simp] theorem State.queueNotice_rx (s : State) (n : Notice) : (s.queueNotice n).rx = s.rx := by simp only [State.queueNotice, State.modMgmt]
@[simp] theorem State.queueNotice_table (s : State) (n : Notice) : (s.queueNotice n).table = s.table := by simp only [State.queueNotice, State.modMgmt]
@[simp] theorem State.queueNotice_pointer (s : State) (n : Notice) : (s.queueNotice n).pointer = s.pointer := by simp only [State.queueNotice, State.modMgmt]
@[simp] theorem State.queueNotice_turn (s : State) (n : Notice) : (s.queueNotice n).turn = s.turn := by simp only [State.queueNotice, State.modMgmt]
@[simp] theorem State.queueNotice_spill (s : State) (n : Notice) : (s.queueNotice n).spill = s.spill := by simp only [State.queueNotice, State.modMgmt]
@[simp] theorem State.queueNotice_policy (s : State) (n : Notice) : (s.queueNotice n).policy = s.policy := by simp only [State.queueNotice, State.modMgmt]
@[simp] theorem State.queueNotice_counters (s : State) (n : Notice) : (s.queueNotice n).counters = s.counters := by simp only [State.queueNotice, State.modMgmt]
@[simp] theorem State.queueNotice_tx (s : State) (n : Notice) : (s.queueNotice n).tx = s.tx := by simp only [State.queueNotice, State.modMgmt]
@[simp] theorem State.queueNotice_dnPointer (s : State) (n : Notice) : (s.queueNotice n).dnPointer = s.dnPointer := by simp only [State.queueNotice, State.modMgmt]
@[simp] theorem State.queueNotice_dnSending (s : State) (n : Notice) : (s.queueNotice n).dnSending = s.dnSending := by simp only [State.queueNotice, State.modMgmt]
@[simp] theorem State.queueNotice_pending (s : State) (n : Notice) : (s.queueNotice n).pending = s.pending := by simp only [State.queueNotice, State.modMgmt]
@[simp] theorem State.queueNotice_duringRestart (s : State) (n : Notice) : (s.queueNotice n).duringRestart = s.duringRestart := by simp only [State.queueNotice, State.modMgmt]

/-! ### count -/

@[simp] theorem State.count_straps (s : State) (i : Option (Fin 256)) (a b : Nat) : (s.count i a b).straps = s.straps := by cases i <;> rfl
@[simp] theorem State.count_upPort (s : State) (i : Option (Fin 256)) (a b : Nat) : (s.count i a b).upPort = s.upPort := by cases i <;> rfl
@[simp] theorem State.count_dnPort (s : State) (i : Option (Fin 256)) (a b : Nat) : (s.count i a b).dnPort = s.dnPort := by cases i <;> rfl
@[simp] theorem State.count_linkErrors (s : State) (i : Option (Fin 256)) (a b : Nat) : (s.count i a b).linkErrors = s.linkErrors := by cases i <;> rfl
@[simp] theorem State.count_rx (s : State) (i : Option (Fin 256)) (a b : Nat) : (s.count i a b).rx = s.rx := by cases i <;> rfl
@[simp] theorem State.count_table (s : State) (i : Option (Fin 256)) (a b : Nat) : (s.count i a b).table = s.table := by cases i <;> rfl
@[simp] theorem State.count_pointer (s : State) (i : Option (Fin 256)) (a b : Nat) : (s.count i a b).pointer = s.pointer := by cases i <;> rfl
@[simp] theorem State.count_turn (s : State) (i : Option (Fin 256)) (a b : Nat) : (s.count i a b).turn = s.turn := by cases i <;> rfl
@[simp] theorem State.count_spill (s : State) (i : Option (Fin 256)) (a b : Nat) : (s.count i a b).spill = s.spill := by cases i <;> rfl
@[simp] theorem State.count_policy (s : State) (i : Option (Fin 256)) (a b : Nat) : (s.count i a b).policy = s.policy := by cases i <;> rfl
@[simp] theorem State.count_tx (s : State) (i : Option (Fin 256)) (a b : Nat) : (s.count i a b).tx = s.tx := by cases i <;> rfl
@[simp] theorem State.count_dnPointer (s : State) (i : Option (Fin 256)) (a b : Nat) : (s.count i a b).dnPointer = s.dnPointer := by cases i <;> rfl
@[simp] theorem State.count_dnSending (s : State) (i : Option (Fin 256)) (a b : Nat) : (s.count i a b).dnSending = s.dnSending := by cases i <;> rfl
@[simp] theorem State.count_mgmt (s : State) (i : Option (Fin 256)) (a b : Nat) : (s.count i a b).mgmt = s.mgmt := by cases i <;> rfl
@[simp] theorem State.count_pending (s : State) (i : Option (Fin 256)) (a b : Nat) : (s.count i a b).pending = s.pending := by cases i <;> rfl
@[simp] theorem State.count_duringRestart (s : State) (i : Option (Fin 256)) (a b : Nat) : (s.count i a b).duringRestart = s.duringRestart := by cases i <;> rfl

/-! ### releaseBound -/

@[simp] theorem State.releaseBound_straps (s : State) (b : Option Binding) : (s.releaseBound b).straps = s.straps := by cases b <;> rfl
@[simp] theorem State.releaseBound_upPort (s : State) (b : Option Binding) : (s.releaseBound b).upPort = s.upPort := by cases b <;> rfl
@[simp] theorem State.releaseBound_dnPort (s : State) (b : Option Binding) : (s.releaseBound b).dnPort = s.dnPort := by cases b <;> rfl
@[simp] theorem State.releaseBound_linkErrors (s : State) (b : Option Binding) : (s.releaseBound b).linkErrors = s.linkErrors := by cases b <;> rfl
@[simp] theorem State.releaseBound_rx (s : State) (b : Option Binding) : (s.releaseBound b).rx = s.rx := by cases b <;> rfl
@[simp] theorem State.releaseBound_table (s : State) (b : Option Binding) : (s.releaseBound b).table = s.table := by cases b <;> rfl
@[simp] theorem State.releaseBound_pointer (s : State) (b : Option Binding) : (s.releaseBound b).pointer = s.pointer := by cases b <;> rfl
@[simp] theorem State.releaseBound_turn (s : State) (b : Option Binding) : (s.releaseBound b).turn = s.turn := by cases b <;> rfl
@[simp] theorem State.releaseBound_spill (s : State) (b : Option Binding) : (s.releaseBound b).spill = s.spill := by cases b <;> rfl
@[simp] theorem State.releaseBound_counters (s : State) (b : Option Binding) : (s.releaseBound b).counters = s.counters := by cases b <;> rfl
@[simp] theorem State.releaseBound_tx (s : State) (b : Option Binding) : (s.releaseBound b).tx = s.tx := by cases b <;> rfl
@[simp] theorem State.releaseBound_dnPointer (s : State) (b : Option Binding) : (s.releaseBound b).dnPointer = s.dnPointer := by cases b <;> rfl
@[simp] theorem State.releaseBound_dnSending (s : State) (b : Option Binding) : (s.releaseBound b).dnSending = s.dnSending := by cases b <;> rfl
@[simp] theorem State.releaseBound_mgmt (s : State) (b : Option Binding) : (s.releaseBound b).mgmt = s.mgmt := by cases b <;> rfl
@[simp] theorem State.releaseBound_pending (s : State) (b : Option Binding) : (s.releaseBound b).pending = s.pending := by cases b <;> rfl
@[simp] theorem State.releaseBound_duringRestart (s : State) (b : Option Binding) : (s.releaseBound b).duringRestart = s.duringRestart := by cases b <;> rfl

/-! ### hand -/

@[simp] theorem State.hand_straps (s : State) (c : ChannelNo) (u : List Byte) : (s.hand c u).straps = s.straps := rfl
@[simp] theorem State.hand_upPort (s : State) (c : ChannelNo) (u : List Byte) : (s.hand c u).upPort = s.upPort := rfl
@[simp] theorem State.hand_dnPort (s : State) (c : ChannelNo) (u : List Byte) : (s.hand c u).dnPort = s.dnPort := rfl
@[simp] theorem State.hand_linkErrors (s : State) (c : ChannelNo) (u : List Byte) : (s.hand c u).linkErrors = s.linkErrors := rfl
@[simp] theorem State.hand_rx (s : State) (c : ChannelNo) (u : List Byte) : (s.hand c u).rx = s.rx := rfl
@[simp] theorem State.hand_pointer (s : State) (c : ChannelNo) (u : List Byte) : (s.hand c u).pointer = s.pointer := rfl
@[simp] theorem State.hand_turn (s : State) (c : ChannelNo) (u : List Byte) : (s.hand c u).turn = s.turn := rfl
@[simp] theorem State.hand_spill (s : State) (c : ChannelNo) (u : List Byte) : (s.hand c u).spill = s.spill := rfl
@[simp] theorem State.hand_policy (s : State) (c : ChannelNo) (u : List Byte) : (s.hand c u).policy = s.policy := rfl
@[simp] theorem State.hand_counters (s : State) (c : ChannelNo) (u : List Byte) : (s.hand c u).counters = s.counters := rfl
@[simp] theorem State.hand_dnPointer (s : State) (c : ChannelNo) (u : List Byte) : (s.hand c u).dnPointer = s.dnPointer := rfl
@[simp] theorem State.hand_dnSending (s : State) (c : ChannelNo) (u : List Byte) : (s.hand c u).dnSending = s.dnSending := rfl
@[simp] theorem State.hand_mgmt (s : State) (c : ChannelNo) (u : List Byte) : (s.hand c u).mgmt = s.mgmt := rfl
@[simp] theorem State.hand_pending (s : State) (c : ChannelNo) (u : List Byte) : (s.hand c u).pending = s.pending := rfl
@[simp] theorem State.hand_duringRestart (s : State) (c : ChannelNo) (u : List Byte) : (s.hand c u).duringRestart = s.duringRestart := rfl

/-! ### emitHeader -/

@[simp] theorem State.emitHeader_straps (s : State) (c : ChannelNo) (h : Option Header) : (s.emitHeader c h).straps = s.straps := by cases h <;> rfl
@[simp] theorem State.emitHeader_upPort (s : State) (c : ChannelNo) (h : Option Header) : (s.emitHeader c h).upPort = s.upPort := by cases h <;> rfl
@[simp] theorem State.emitHeader_dnPort (s : State) (c : ChannelNo) (h : Option Header) : (s.emitHeader c h).dnPort = s.dnPort := by cases h <;> rfl
@[simp] theorem State.emitHeader_linkErrors (s : State) (c : ChannelNo) (h : Option Header) : (s.emitHeader c h).linkErrors = s.linkErrors := by cases h <;> rfl
@[simp] theorem State.emitHeader_rx (s : State) (c : ChannelNo) (h : Option Header) : (s.emitHeader c h).rx = s.rx := by cases h <;> rfl
@[simp] theorem State.emitHeader_pointer (s : State) (c : ChannelNo) (h : Option Header) : (s.emitHeader c h).pointer = s.pointer := by cases h <;> rfl
@[simp] theorem State.emitHeader_turn (s : State) (c : ChannelNo) (h : Option Header) : (s.emitHeader c h).turn = s.turn := by cases h <;> rfl
@[simp] theorem State.emitHeader_spill (s : State) (c : ChannelNo) (h : Option Header) : (s.emitHeader c h).spill = s.spill := by cases h <;> rfl
@[simp] theorem State.emitHeader_policy (s : State) (c : ChannelNo) (h : Option Header) : (s.emitHeader c h).policy = s.policy := by cases h <;> rfl
@[simp] theorem State.emitHeader_counters (s : State) (c : ChannelNo) (h : Option Header) : (s.emitHeader c h).counters = s.counters := by cases h <;> rfl
@[simp] theorem State.emitHeader_dnPointer (s : State) (c : ChannelNo) (h : Option Header) : (s.emitHeader c h).dnPointer = s.dnPointer := by cases h <;> rfl
@[simp] theorem State.emitHeader_dnSending (s : State) (c : ChannelNo) (h : Option Header) : (s.emitHeader c h).dnSending = s.dnSending := by cases h <;> rfl
@[simp] theorem State.emitHeader_mgmt (s : State) (c : ChannelNo) (h : Option Header) : (s.emitHeader c h).mgmt = s.mgmt := by cases h <;> rfl
@[simp] theorem State.emitHeader_pending (s : State) (c : ChannelNo) (h : Option Header) : (s.emitHeader c h).pending = s.pending := by cases h <;> rfl
@[simp] theorem State.emitHeader_duringRestart (s : State) (c : ChannelNo) (h : Option Header) : (s.emitHeader c h).duringRestart = s.duringRestart := by cases h <;> rfl

/-! ### removeJob -/

@[simp] theorem State.removeJob_straps (s : State) (c : ChannelNo) : (s.removeJob c).straps = s.straps := rfl
@[simp] theorem State.removeJob_upPort (s : State) (c : ChannelNo) : (s.removeJob c).upPort = s.upPort := rfl
@[simp] theorem State.removeJob_dnPort (s : State) (c : ChannelNo) : (s.removeJob c).dnPort = s.dnPort := rfl
@[simp] theorem State.removeJob_linkErrors (s : State) (c : ChannelNo) : (s.removeJob c).linkErrors = s.linkErrors := rfl
@[simp] theorem State.removeJob_rx (s : State) (c : ChannelNo) : (s.removeJob c).rx = s.rx := rfl
@[simp] theorem State.removeJob_table (s : State) (c : ChannelNo) : (s.removeJob c).table = s.table := rfl
@[simp] theorem State.removeJob_pointer (s : State) (c : ChannelNo) : (s.removeJob c).pointer = s.pointer := rfl
@[simp] theorem State.removeJob_turn (s : State) (c : ChannelNo) : (s.removeJob c).turn = s.turn := rfl
@[simp] theorem State.removeJob_policy (s : State) (c : ChannelNo) : (s.removeJob c).policy = s.policy := rfl
@[simp] theorem State.removeJob_counters (s : State) (c : ChannelNo) : (s.removeJob c).counters = s.counters := rfl
@[simp] theorem State.removeJob_tx (s : State) (c : ChannelNo) : (s.removeJob c).tx = s.tx := rfl
@[simp] theorem State.removeJob_dnPointer (s : State) (c : ChannelNo) : (s.removeJob c).dnPointer = s.dnPointer := rfl
@[simp] theorem State.removeJob_dnSending (s : State) (c : ChannelNo) : (s.removeJob c).dnSending = s.dnSending := rfl
@[simp] theorem State.removeJob_mgmt (s : State) (c : ChannelNo) : (s.removeJob c).mgmt = s.mgmt := rfl
@[simp] theorem State.removeJob_pending (s : State) (c : ChannelNo) : (s.removeJob c).pending = s.pending := rfl
@[simp] theorem State.removeJob_duringRestart (s : State) (c : ChannelNo) : (s.removeJob c).duringRestart = s.duringRestart := rfl

/-! ### unwind -/

@[simp] theorem State.unwind_straps (s : State) (c : ChannelNo) (a : Bool) (x : DrainExit) : (s.unwind c a x).straps = s.straps := by simp only [State.unwind]; cases (s.ch c).bound <;> rfl
@[simp] theorem State.unwind_upPort (s : State) (c : ChannelNo) (a : Bool) (x : DrainExit) : (s.unwind c a x).upPort = s.upPort := by simp only [State.unwind]; cases (s.ch c).bound <;> rfl
@[simp] theorem State.unwind_dnPort (s : State) (c : ChannelNo) (a : Bool) (x : DrainExit) : (s.unwind c a x).dnPort = s.dnPort := by simp only [State.unwind]; cases (s.ch c).bound <;> rfl
@[simp] theorem State.unwind_linkErrors (s : State) (c : ChannelNo) (a : Bool) (x : DrainExit) : (s.unwind c a x).linkErrors = s.linkErrors := by simp only [State.unwind]; cases (s.ch c).bound <;> rfl
@[simp] theorem State.unwind_pointer (s : State) (c : ChannelNo) (a : Bool) (x : DrainExit) : (s.unwind c a x).pointer = s.pointer := by simp only [State.unwind]; cases (s.ch c).bound <;> rfl
@[simp] theorem State.unwind_turn (s : State) (c : ChannelNo) (a : Bool) (x : DrainExit) : (s.unwind c a x).turn = s.turn := by simp only [State.unwind]; cases (s.ch c).bound <;> rfl
@[simp] theorem State.unwind_counters (s : State) (c : ChannelNo) (a : Bool) (x : DrainExit) : (s.unwind c a x).counters = s.counters := by simp only [State.unwind]; cases (s.ch c).bound <;> rfl
@[simp] theorem State.unwind_dnPointer (s : State) (c : ChannelNo) (a : Bool) (x : DrainExit) : (s.unwind c a x).dnPointer = s.dnPointer := by simp only [State.unwind]; cases (s.ch c).bound <;> rfl
@[simp] theorem State.unwind_dnSending (s : State) (c : ChannelNo) (a : Bool) (x : DrainExit) : (s.unwind c a x).dnSending = s.dnSending := by simp only [State.unwind]; cases (s.ch c).bound <;> rfl
@[simp] theorem State.unwind_mgmt (s : State) (c : ChannelNo) (a : Bool) (x : DrainExit) : (s.unwind c a x).mgmt = s.mgmt := by simp only [State.unwind]; cases (s.ch c).bound <;> rfl
@[simp] theorem State.unwind_pending (s : State) (c : ChannelNo) (a : Bool) (x : DrainExit) : (s.unwind c a x).pending = s.pending := by simp only [State.unwind]; cases (s.ch c).bound <;> rfl
@[simp] theorem State.unwind_duringRestart (s : State) (c : ChannelNo) (a : Bool) (x : DrainExit) : (s.unwind c a x).duringRestart = s.duringRestart := by simp only [State.unwind]; cases (s.ch c).bound <;> rfl

/-! ### fault -/

@[simp] theorem State.fault_straps (s : State) (c : ChannelNo) (k : FaultKind) (r : Reason) (a : Bool) : (s.fault c k r a).straps = s.straps := by simp [State.fault]
@[simp] theorem State.fault_upPort (s : State) (c : ChannelNo) (k : FaultKind) (r : Reason) (a : Bool) : (s.fault c k r a).upPort = s.upPort := by simp [State.fault]
@[simp] theorem State.fault_dnPort (s : State) (c : ChannelNo) (k : FaultKind) (r : Reason) (a : Bool) : (s.fault c k r a).dnPort = s.dnPort := by simp [State.fault]
@[simp] theorem State.fault_linkErrors (s : State) (c : ChannelNo) (k : FaultKind) (r : Reason) (a : Bool) : (s.fault c k r a).linkErrors = s.linkErrors := by simp [State.fault]
@[simp] theorem State.fault_pointer (s : State) (c : ChannelNo) (k : FaultKind) (r : Reason) (a : Bool) : (s.fault c k r a).pointer = s.pointer := by simp [State.fault]
@[simp] theorem State.fault_turn (s : State) (c : ChannelNo) (k : FaultKind) (r : Reason) (a : Bool) : (s.fault c k r a).turn = s.turn := by simp [State.fault]
@[simp] theorem State.fault_counters (s : State) (c : ChannelNo) (k : FaultKind) (r : Reason) (a : Bool) : (s.fault c k r a).counters = s.counters := by simp [State.fault]
@[simp] theorem State.fault_dnPointer (s : State) (c : ChannelNo) (k : FaultKind) (r : Reason) (a : Bool) : (s.fault c k r a).dnPointer = s.dnPointer := by simp [State.fault]
@[simp] theorem State.fault_dnSending (s : State) (c : ChannelNo) (k : FaultKind) (r : Reason) (a : Bool) : (s.fault c k r a).dnSending = s.dnSending := by simp [State.fault]
@[simp] theorem State.fault_pending (s : State) (c : ChannelNo) (k : FaultKind) (r : Reason) (a : Bool) : (s.fault c k r a).pending = s.pending := by simp [State.fault]
@[simp] theorem State.fault_duringRestart (s : State) (c : ChannelNo) (k : FaultKind) (r : Reason) (a : Bool) : (s.fault c k r a).duringRestart = s.duringRestart := by simp [State.fault]

/-! ### engineFault -/

@[simp] theorem State.engineFault_straps (s : State) (c : ChannelNo) (k : FaultKind) (r : Reason) : (s.engineFault c k r).straps = s.straps := by simp [State.engineFault]
@[simp] theorem State.engineFault_upPort (s : State) (c : ChannelNo) (k : FaultKind) (r : Reason) : (s.engineFault c k r).upPort = s.upPort := by simp [State.engineFault]
@[simp] theorem State.engineFault_dnPort (s : State) (c : ChannelNo) (k : FaultKind) (r : Reason) : (s.engineFault c k r).dnPort = s.dnPort := by simp [State.engineFault]
@[simp] theorem State.engineFault_linkErrors (s : State) (c : ChannelNo) (k : FaultKind) (r : Reason) : (s.engineFault c k r).linkErrors = s.linkErrors := by simp [State.engineFault]
@[simp] theorem State.engineFault_pointer (s : State) (c : ChannelNo) (k : FaultKind) (r : Reason) : (s.engineFault c k r).pointer = s.pointer := by simp [State.engineFault]
@[simp] theorem State.engineFault_counters (s : State) (c : ChannelNo) (k : FaultKind) (r : Reason) : (s.engineFault c k r).counters = s.counters := by simp [State.engineFault]
@[simp] theorem State.engineFault_dnPointer (s : State) (c : ChannelNo) (k : FaultKind) (r : Reason) : (s.engineFault c k r).dnPointer = s.dnPointer := by simp [State.engineFault]
@[simp] theorem State.engineFault_dnSending (s : State) (c : ChannelNo) (k : FaultKind) (r : Reason) : (s.engineFault c k r).dnSending = s.dnSending := by simp [State.engineFault]
@[simp] theorem State.engineFault_pending (s : State) (c : ChannelNo) (k : FaultKind) (r : Reason) : (s.engineFault c k r).pending = s.pending := by simp [State.engineFault]
@[simp] theorem State.engineFault_duringRestart (s : State) (c : ChannelNo) (k : FaultKind) (r : Reason) : (s.engineFault c k r).duringRestart = s.duringRestart := by simp [State.engineFault]

/-! ### settleTurn -/

@[simp] theorem State.settleTurn_straps (s : State) : (s.settleTurn).straps = s.straps := rfl
@[simp] theorem State.settleTurn_upPort (s : State) : (s.settleTurn).upPort = s.upPort := rfl
@[simp] theorem State.settleTurn_dnPort (s : State) : (s.settleTurn).dnPort = s.dnPort := rfl
@[simp] theorem State.settleTurn_linkErrors (s : State) : (s.settleTurn).linkErrors = s.linkErrors := rfl
@[simp] theorem State.settleTurn_rx (s : State) : (s.settleTurn).rx = s.rx := rfl
@[simp] theorem State.settleTurn_table (s : State) : (s.settleTurn).table = s.table := rfl
@[simp] theorem State.settleTurn_pointer (s : State) : (s.settleTurn).pointer = s.pointer := rfl
@[simp] theorem State.settleTurn_spill (s : State) : (s.settleTurn).spill = s.spill := rfl
@[simp] theorem State.settleTurn_policy (s : State) : (s.settleTurn).policy = s.policy := rfl
@[simp] theorem State.settleTurn_counters (s : State) : (s.settleTurn).counters = s.counters := rfl
@[simp] theorem State.settleTurn_tx (s : State) : (s.settleTurn).tx = s.tx := rfl
@[simp] theorem State.settleTurn_dnPointer (s : State) : (s.settleTurn).dnPointer = s.dnPointer := rfl
@[simp] theorem State.settleTurn_dnSending (s : State) : (s.settleTurn).dnSending = s.dnSending := rfl
@[simp] theorem State.settleTurn_mgmt (s : State) : (s.settleTurn).mgmt = s.mgmt := rfl
@[simp] theorem State.settleTurn_pending (s : State) : (s.settleTurn).pending = s.pending := rfl
@[simp] theorem State.settleTurn_duringRestart (s : State) : (s.settleTurn).duringRestart = s.duringRestart := rfl

/-! ### raiseJob -/

@[simp] theorem State.raiseJob_straps (s : State) (j : Job) : (s.raiseJob j).straps = s.straps := rfl
@[simp] theorem State.raiseJob_upPort (s : State) (j : Job) : (s.raiseJob j).upPort = s.upPort := rfl
@[simp] theorem State.raiseJob_dnPort (s : State) (j : Job) : (s.raiseJob j).dnPort = s.dnPort := rfl
@[simp] theorem State.raiseJob_linkErrors (s : State) (j : Job) : (s.raiseJob j).linkErrors = s.linkErrors := rfl
@[simp] theorem State.raiseJob_rx (s : State) (j : Job) : (s.raiseJob j).rx = s.rx := rfl
@[simp] theorem State.raiseJob_table (s : State) (j : Job) : (s.raiseJob j).table = s.table := rfl
@[simp] theorem State.raiseJob_pointer (s : State) (j : Job) : (s.raiseJob j).pointer = s.pointer := rfl
@[simp] theorem State.raiseJob_turn (s : State) (j : Job) : (s.raiseJob j).turn = s.turn := rfl
@[simp] theorem State.raiseJob_policy (s : State) (j : Job) : (s.raiseJob j).policy = s.policy := rfl
@[simp] theorem State.raiseJob_counters (s : State) (j : Job) : (s.raiseJob j).counters = s.counters := rfl
@[simp] theorem State.raiseJob_tx (s : State) (j : Job) : (s.raiseJob j).tx = s.tx := rfl
@[simp] theorem State.raiseJob_dnPointer (s : State) (j : Job) : (s.raiseJob j).dnPointer = s.dnPointer := rfl
@[simp] theorem State.raiseJob_dnSending (s : State) (j : Job) : (s.raiseJob j).dnSending = s.dnSending := rfl
@[simp] theorem State.raiseJob_mgmt (s : State) (j : Job) : (s.raiseJob j).mgmt = s.mgmt := rfl
@[simp] theorem State.raiseJob_pending (s : State) (j : Job) : (s.raiseJob j).pending = s.pending := rfl
@[simp] theorem State.raiseJob_duringRestart (s : State) (j : Job) : (s.raiseJob j).duringRestart = s.duringRestart := rfl

/-! ### respond -/

@[simp] theorem State.respond_straps (s : State) (t : RecType) (tag : Option (List Byte)) (e : Completion) (l : List Byte) : (s.respond t tag e l).straps = s.straps := rfl
@[simp] theorem State.respond_upPort (s : State) (t : RecType) (tag : Option (List Byte)) (e : Completion) (l : List Byte) : (s.respond t tag e l).upPort = s.upPort := rfl
@[simp] theorem State.respond_dnPort (s : State) (t : RecType) (tag : Option (List Byte)) (e : Completion) (l : List Byte) : (s.respond t tag e l).dnPort = s.dnPort := rfl
@[simp] theorem State.respond_linkErrors (s : State) (t : RecType) (tag : Option (List Byte)) (e : Completion) (l : List Byte) : (s.respond t tag e l).linkErrors = s.linkErrors := rfl
@[simp] theorem State.respond_rx (s : State) (t : RecType) (tag : Option (List Byte)) (e : Completion) (l : List Byte) : (s.respond t tag e l).rx = s.rx := rfl
@[simp] theorem State.respond_table (s : State) (t : RecType) (tag : Option (List Byte)) (e : Completion) (l : List Byte) : (s.respond t tag e l).table = s.table := rfl
@[simp] theorem State.respond_pointer (s : State) (t : RecType) (tag : Option (List Byte)) (e : Completion) (l : List Byte) : (s.respond t tag e l).pointer = s.pointer := rfl
@[simp] theorem State.respond_turn (s : State) (t : RecType) (tag : Option (List Byte)) (e : Completion) (l : List Byte) : (s.respond t tag e l).turn = s.turn := rfl
@[simp] theorem State.respond_spill (s : State) (t : RecType) (tag : Option (List Byte)) (e : Completion) (l : List Byte) : (s.respond t tag e l).spill = s.spill := rfl
@[simp] theorem State.respond_policy (s : State) (t : RecType) (tag : Option (List Byte)) (e : Completion) (l : List Byte) : (s.respond t tag e l).policy = s.policy := rfl
@[simp] theorem State.respond_counters (s : State) (t : RecType) (tag : Option (List Byte)) (e : Completion) (l : List Byte) : (s.respond t tag e l).counters = s.counters := rfl
@[simp] theorem State.respond_tx (s : State) (t : RecType) (tag : Option (List Byte)) (e : Completion) (l : List Byte) : (s.respond t tag e l).tx = s.tx := rfl
@[simp] theorem State.respond_dnPointer (s : State) (t : RecType) (tag : Option (List Byte)) (e : Completion) (l : List Byte) : (s.respond t tag e l).dnPointer = s.dnPointer := rfl
@[simp] theorem State.respond_dnSending (s : State) (t : RecType) (tag : Option (List Byte)) (e : Completion) (l : List Byte) : (s.respond t tag e l).dnSending = s.dnSending := rfl
@[simp] theorem State.respond_pending (s : State) (t : RecType) (tag : Option (List Byte)) (e : Completion) (l : List Byte) : (s.respond t tag e l).pending = s.pending := rfl
@[simp] theorem State.respond_duringRestart (s : State) (t : RecType) (tag : Option (List Byte)) (e : Completion) (l : List Byte) : (s.respond t tag e l).duringRestart = s.duringRestart := rfl

/-! ### answer -/

@[simp] theorem State.answer_straps (s : State) (r : CommandRecord) (e : Completion) (l : List Byte) : (s.answer r e l).straps = s.straps := rfl
@[simp] theorem State.answer_upPort (s : State) (r : CommandRecord) (e : Completion) (l : List Byte) : (s.answer r e l).upPort = s.upPort := rfl
@[simp] theorem State.answer_dnPort (s : State) (r : CommandRecord) (e : Completion) (l : List Byte) : (s.answer r e l).dnPort = s.dnPort := rfl
@[simp] theorem State.answer_linkErrors (s : State) (r : CommandRecord) (e : Completion) (l : List Byte) : (s.answer r e l).linkErrors = s.linkErrors := rfl
@[simp] theorem State.answer_rx (s : State) (r : CommandRecord) (e : Completion) (l : List Byte) : (s.answer r e l).rx = s.rx := rfl
@[simp] theorem State.answer_table (s : State) (r : CommandRecord) (e : Completion) (l : List Byte) : (s.answer r e l).table = s.table := rfl
@[simp] theorem State.answer_pointer (s : State) (r : CommandRecord) (e : Completion) (l : List Byte) : (s.answer r e l).pointer = s.pointer := rfl
@[simp] theorem State.answer_turn (s : State) (r : CommandRecord) (e : Completion) (l : List Byte) : (s.answer r e l).turn = s.turn := rfl
@[simp] theorem State.answer_spill (s : State) (r : CommandRecord) (e : Completion) (l : List Byte) : (s.answer r e l).spill = s.spill := rfl
@[simp] theorem State.answer_policy (s : State) (r : CommandRecord) (e : Completion) (l : List Byte) : (s.answer r e l).policy = s.policy := rfl
@[simp] theorem State.answer_counters (s : State) (r : CommandRecord) (e : Completion) (l : List Byte) : (s.answer r e l).counters = s.counters := rfl
@[simp] theorem State.answer_tx (s : State) (r : CommandRecord) (e : Completion) (l : List Byte) : (s.answer r e l).tx = s.tx := rfl
@[simp] theorem State.answer_dnPointer (s : State) (r : CommandRecord) (e : Completion) (l : List Byte) : (s.answer r e l).dnPointer = s.dnPointer := rfl
@[simp] theorem State.answer_dnSending (s : State) (r : CommandRecord) (e : Completion) (l : List Byte) : (s.answer r e l).dnSending = s.dnSending := rfl
@[simp] theorem State.answer_pending (s : State) (r : CommandRecord) (e : Completion) (l : List Byte) : (s.answer r e l).pending = s.pending := rfl
@[simp] theorem State.answer_duringRestart (s : State) (r : CommandRecord) (e : Completion) (l : List Byte) : (s.answer r e l).duringRestart = s.duringRestart := rfl

/-! ### noticeBacking -/

@[simp] theorem State.noticeBacking_straps (s : State) : (s.noticeBacking).straps = s.straps := by simp [State.noticeBacking]
@[simp] theorem State.noticeBacking_upPort (s : State) : (s.noticeBacking).upPort = s.upPort := by simp [State.noticeBacking]
@[simp] theorem State.noticeBacking_dnPort (s : State) : (s.noticeBacking).dnPort = s.dnPort := by simp [State.noticeBacking]
@[simp] theorem State.noticeBacking_linkErrors (s : State) : (s.noticeBacking).linkErrors = s.linkErrors := by simp [State.noticeBacking]
@[simp] theorem State.noticeBacking_rx (s : State) : (s.noticeBacking).rx = s.rx := by simp [State.noticeBacking]
@[simp] theorem State.noticeBacking_table (s : State) : (s.noticeBacking).table = s.table := by simp [State.noticeBacking]
@[simp] theorem State.noticeBacking_pointer (s : State) : (s.noticeBacking).pointer = s.pointer := by simp [State.noticeBacking]
@[simp] theorem State.noticeBacking_turn (s : State) : (s.noticeBacking).turn = s.turn := by simp [State.noticeBacking]
@[simp] theorem State.noticeBacking_spill (s : State) : (s.noticeBacking).spill = s.spill := by simp [State.noticeBacking]
@[simp] theorem State.noticeBacking_policy (s : State) : (s.noticeBacking).policy = s.policy := by simp [State.noticeBacking]
@[simp] theorem State.noticeBacking_counters (s : State) : (s.noticeBacking).counters = s.counters := by simp [State.noticeBacking]
@[simp] theorem State.noticeBacking_tx (s : State) : (s.noticeBacking).tx = s.tx := by simp [State.noticeBacking]
@[simp] theorem State.noticeBacking_dnPointer (s : State) : (s.noticeBacking).dnPointer = s.dnPointer := by simp [State.noticeBacking]
@[simp] theorem State.noticeBacking_dnSending (s : State) : (s.noticeBacking).dnSending = s.dnSending := by simp [State.noticeBacking]
@[simp] theorem State.noticeBacking_pending (s : State) : (s.noticeBacking).pending = s.pending := by simp [State.noticeBacking]
@[simp] theorem State.noticeBacking_duringRestart (s : State) : (s.noticeBacking).duringRestart = s.duringRestart := by simp [State.noticeBacking]

/-! ### markSpillInvalid -/

@[simp] theorem State.markSpillInvalid_straps (s : State) : (s.markSpillInvalid).straps = s.straps := by simp [State.markSpillInvalid]
@[simp] theorem State.markSpillInvalid_upPort (s : State) : (s.markSpillInvalid).upPort = s.upPort := by simp [State.markSpillInvalid]
@[simp] theorem State.markSpillInvalid_dnPort (s : State) : (s.markSpillInvalid).dnPort = s.dnPort := by simp [State.markSpillInvalid]
@[simp] theorem State.markSpillInvalid_linkErrors (s : State) : (s.markSpillInvalid).linkErrors = s.linkErrors := by simp [State.markSpillInvalid]
@[simp] theorem State.markSpillInvalid_rx (s : State) : (s.markSpillInvalid).rx = s.rx := by simp [State.markSpillInvalid]
@[simp] theorem State.markSpillInvalid_pointer (s : State) : (s.markSpillInvalid).pointer = s.pointer := by simp [State.markSpillInvalid]
@[simp] theorem State.markSpillInvalid_turn (s : State) : (s.markSpillInvalid).turn = s.turn := by simp [State.markSpillInvalid]
@[simp] theorem State.markSpillInvalid_spill (s : State) : (s.markSpillInvalid).spill = s.spill := by simp [State.markSpillInvalid]
@[simp] theorem State.markSpillInvalid_policy (s : State) : (s.markSpillInvalid).policy = s.policy := by simp [State.markSpillInvalid]
@[simp] theorem State.markSpillInvalid_counters (s : State) : (s.markSpillInvalid).counters = s.counters := by simp [State.markSpillInvalid]
@[simp] theorem State.markSpillInvalid_tx (s : State) : (s.markSpillInvalid).tx = s.tx := by simp [State.markSpillInvalid]
@[simp] theorem State.markSpillInvalid_dnPointer (s : State) : (s.markSpillInvalid).dnPointer = s.dnPointer := by simp [State.markSpillInvalid]
@[simp] theorem State.markSpillInvalid_dnSending (s : State) : (s.markSpillInvalid).dnSending = s.dnSending := by simp [State.markSpillInvalid]
@[simp] theorem State.markSpillInvalid_mgmt (s : State) : (s.markSpillInvalid).mgmt = s.mgmt := by simp [State.markSpillInvalid]
@[simp] theorem State.markSpillInvalid_pending (s : State) : (s.markSpillInvalid).pending = s.pending := by simp [State.markSpillInvalid]
@[simp] theorem State.markSpillInvalid_duringRestart (s : State) : (s.markSpillInvalid).duringRestart = s.duringRestart := by simp [State.markSpillInvalid]

/-! ### What they write -/

/-- The unit, its buffers and its credits are untouched by a notice. -/
theorem State.queueNotice_mgmt (s : State) (n : Notice) :
    (s.queueNotice n).mgmt = { s.mgmt with
      notices := (s.queueNotice n).mgmt.notices, lost := (s.queueNotice n).mgmt.lost } := by
  simp only [State.queueNotice, State.modMgmt]
  split <;> rfl

/-- The notice queue never grows beyond 32. -/
theorem State.queueNotice_length (s : State) (n : Notice) (h : s.mgmt.notices.length ≤ 32) :
    (s.queueNotice n).mgmt.notices.length ≤ 32 := by
  simp only [State.queueNotice, State.modMgmt]
  split
  · simp only [List.length_append, List.length_cons, List.length_nil]; omega
  · exact h

/-- A saturating count stays in its range. -/
theorem satAdd_le (limit a b : Nat) : satAdd limit a b ≤ limit := Nat.min_le_left _ _

@[simp] theorem PolicyStore.bank_setBank_same (p : PolicyStore) (n : BankName) (b : Bank) :
    (p.setBank n b).bank n = b := by cases n <;> rfl

@[simp] theorem PolicyStore.bank_setBank_other (p : PolicyStore) (n : BankName) (b : Bank) :
    (p.setBank n b).bank n.other = p.bank n.other := by cases n <;> rfl

@[simp] theorem PolicyStore.setBank_active (p : PolicyStore) (n : BankName) (b : Bank) :
    (p.setBank n b).active = p.active := by cases n <;> rfl

@[simp] theorem PolicyStore.setBank_staging (p : PolicyStore) (n : BankName) (b : Bank) :
    (p.setBank n b).staging = p.staging := by cases n <;> rfl

@[simp] theorem PolicyStore.release_active (p : PolicyStore) (n : BankName) : (p.release n).active = p.active := by
  simp only [PolicyStore.release]
  split <;> simp

@[simp] theorem BankName.other_ne (n : BankName) : n.other ≠ n := by cases n <;> decide

/-- An unwind leaves the records of the other channels alone. -/
theorem State.unwind_ch_ne (s : State) (c d : ChannelNo) (a : Bool) (x : DrainExit) (h : d ≠ c) :
    (s.unwind c a x).ch d = s.ch d := by
  simp only [State.unwind, State.modCh_eq, State.setCh_ch, if_neg h]
  cases (s.ch c).bound <;> rfl

/-- An unwound channel has no message open. -/
theorem Channel.unwound_closed (ch : Channel) (flying : Bool) (x : DrainExit) :
    (ch.unwound flying x).state.messageOpen = false := by
  cases flying <;> cases x <;> rfl

@[simp] theorem Channel.unwound_bound (ch : Channel) (flying : Bool) (x : DrainExit) :
    (ch.unwound flying x).bound = none := rfl

@[simp] theorem Channel.unwound_depth (ch : Channel) (flying : Bool) (x : DrainExit) :
    (ch.unwound flying x).depth = 0 := rfl

/-- A unit handed keeps the bytes before it. -/
theorem TxChannel.hand_pending_lt (t : TxChannel) (u : List Byte) (h : t.pendingBytes.length < 64) (k : u.length ≤ 64) :
    (t.hand u).pendingBytes.length < 64 := by
  simp only [TxChannel.hand]
  split
  · simp only [List.length_drop, List.length_append]; omega
  · rename_i g
    exact Nat.not_le.1 g

/-- Only a change of the channel in the turn ends it. -/
theorem State.settleTurn_turn (s : State) : s.settleTurn.turn = none ∨ s.settleTurn.turn = s.turn := by
  simp only [State.settleTurn, State.turnGoesOn]
  split
  · split
    · right; rename_i h _; exact h.symm
    · left; rfl
  · left; rfl

end Sys2Proof.Machine
end

