-- ==== Sys2Proof/Laws/Engine.lean ====
section
/-! SUPPORT. What an engine step and a management command run on: the channel served, the state a step begins in, and the plain
readings of the conditions the engine computes. -/

namespace Sys2Proof.Machine

/-! ### The channel served -/

/-- A step is due for a channel exactly when the engine serves it and the step is the one it takes next. -/
theorem State.servedFor_iff (s : State) (k : EngineStep) (c : ChannelNo) :
    s.servedFor k = some c ↔ s.served = some c ∧ s.stepFor c = some k := by
  simp only [State.servedFor]
  cases h : s.served with
  | none => simp
  | some d =>
    by_cases hk : s.stepFor d = some k
    · simp only [hk, beq_self_eq_true, if_true, Option.some.injEq]
      constructor
      · intro e; subst e; exact ⟨rfl, hk⟩
      · exact fun e => e.1
    · simp only [beq_iff_eq, hk, if_false, Option.some.injEq]
      constructor
      · intro e; simp at e
      · rintro ⟨e, e2⟩; subst e; exact absurd e2 hk

/-- Every engine step runs on the state `State.Stepping` gives. -/
theorem State.engineDo_eq (s : State) (k : EngineStep) (f : State → ChannelNo → State) (c : ChannelNo)
    (h : s.servedFor k = some c) : s.engineDo k f = f (s.Stepping c) c := by
  simp only [State.engineDo, h]
  congr 1
  simp only [State.beginStep, State.Stepping]
  cases s.turnGoesOn <;> simp

/-- A step that is not the one due leaves the state as it is (log 1). -/
theorem State.engineDo_none (s : State) (k : EngineStep) (f : State → ChannelNo → State) (h : s.servedFor k = none) :
    s.engineDo k f = s := by
  simp only [State.engineDo, h]

@[simp] theorem State.Stepping_straps (s : State) (c : ChannelNo) : (s.Stepping c).straps = s.straps := by
  simp only [State.Stepping]; split <;> rfl
@[simp] theorem State.Stepping_upPort (s : State) (c : ChannelNo) : (s.Stepping c).upPort = s.upPort := by
  simp only [State.Stepping]; split <;> rfl
@[simp] theorem State.Stepping_dnPort (s : State) (c : ChannelNo) : (s.Stepping c).dnPort = s.dnPort := by
  simp only [State.Stepping]; split <;> rfl
@[simp] theorem State.Stepping_linkErrors (s : State) (c : ChannelNo) : (s.Stepping c).linkErrors = s.linkErrors := by
  simp only [State.Stepping]; split <;> rfl
@[simp] theorem State.Stepping_rx (s : State) (c : ChannelNo) : (s.Stepping c).rx = s.rx := by
  simp only [State.Stepping]; split <;> rfl
@[simp] theorem State.Stepping_table (s : State) (c : ChannelNo) : (s.Stepping c).table = s.table := by
  simp only [State.Stepping]; split <;> rfl
@[simp] theorem State.Stepping_spill (s : State) (c : ChannelNo) : (s.Stepping c).spill = s.spill := by
  simp only [State.Stepping]; split <;> rfl
@[simp] theorem State.Stepping_policy (s : State) (c : ChannelNo) : (s.Stepping c).policy = s.policy := by
  simp only [State.Stepping]; split <;> rfl
@[simp] theorem State.Stepping_counters (s : State) (c : ChannelNo) : (s.Stepping c).counters = s.counters := by
  simp only [State.Stepping]; split <;> rfl
@[simp] theorem State.Stepping_tx (s : State) (c : ChannelNo) : (s.Stepping c).tx = s.tx := by
  simp only [State.Stepping]; split <;> rfl
@[simp] theorem State.Stepping_dnPointer (s : State) (c : ChannelNo) : (s.Stepping c).dnPointer = s.dnPointer := by
  simp only [State.Stepping]; split <;> rfl
@[simp] theorem State.Stepping_dnSending (s : State) (c : ChannelNo) : (s.Stepping c).dnSending = s.dnSending := by
  simp only [State.Stepping]; split <;> rfl
@[simp] theorem State.Stepping_mgmt (s : State) (c : ChannelNo) : (s.Stepping c).mgmt = s.mgmt := by
  simp only [State.Stepping]; split <;> rfl
@[simp] theorem State.Stepping_pending (s : State) (c : ChannelNo) : (s.Stepping c).pending = s.pending := by
  simp only [State.Stepping]; split <;> rfl
@[simp] theorem State.Stepping_duringRestart (s : State) (c : ChannelNo) : (s.Stepping c).duringRestart = s.duringRestart := by
  simp only [State.Stepping]; split <;> rfl
@[simp] theorem State.Stepping_ch (s : State) (c d : ChannelNo) : (s.Stepping c).ch d = s.ch d := by
  simp only [State.Stepping]; split <;> rfl
@[simp] theorem State.Stepping_rxOf (s : State) (c d : ChannelNo) : (s.Stepping c).rxOf d = s.rxOf d := by
  simp only [State.Stepping]; split <;> rfl
@[simp] theorem State.Stepping_txOf (s : State) (c d : ChannelNo) : (s.Stepping c).txOf d = s.txOf d := by
  simp only [State.Stepping]; split <;> rfl
@[simp] theorem State.Stepping_isData (s : State) (c d : ChannelNo) : (s.Stepping c).isData d = s.isData d := by
  simp only [State.Stepping]; split <;> rfl

/-! ### Plain readings -/

theorem Channel.owedClose_iff (ch : Channel) : ch.owedClose = true ↔ ch.OwesClose := by
  simp only [Channel.owedClose, Channel.OwesClose, Channel.innermost, ParsePos.atBoundary]
  cases h : ch.resident.getLast? <;> simp [and_assoc]

theorem Channel.cleanEnd_iff (ch : Channel) : ch.cleanEnd = true ↔ ch.EndsCleanly := by
  simp only [Channel.cleanEnd, Channel.EndsCleanly, Channel.depth, ParsePos.atBoundary]
  simp [and_assoc, List.length_eq_zero_iff]

theorem TxChannel.room_iff (t : TxChannel) (started : Bool) (n : Nat) : t.room started n = true ↔ t.Room started n := by
  simp only [TxChannel.room, TxChannel.Room, TxChannel.terminalWaiting, TxChannel.ordinaryFree, TxChannel.ordinaryCount]
  simp [EgressSegment.terminal]

theorem State.hasRoom_iff (s : State) (c : ChannelNo) (n : Nat) : s.hasRoom c n = true ↔ s.Room c n :=
  TxChannel.room_iff _ _ _

theorem Channel.accountClose_none_iff (ch : Channel) (e : ScopeEntry) : ch.accountClose e = none ↔ ch.ClosesLate e := by
  simp only [Channel.accountClose, Channel.ClosesLate, Channel.innermost]
  cases hi : ch.resident.getLast? with
  | none => simp
  | some p =>
    cases hm : e.mode <;> cases hpm : p.mode <;>
      simp [ScopeMode.isIndefinite, ScopeMode.deductTotal, ScopeEntry.total, hpm, hm]
    rename_i r
    by_cases h : r < 4 + e.consumed + 4 <;> simp [h]

theorem State.mayReceive_iff (s : State) (c : ChannelNo) : s.mayReceive c = true ↔ s.Receives c := by
  simp [State.mayReceive, State.Receives, State.isData]

/-- With no grant due the return path may send segments. -/
theorem State.firstGrant_none (s : State) (h : s.NoGrantDue) : s.firstGrant = none := by
  simp only [State.firstGrant, List.find?_eq_none]
  intro c _
  simp only [State.grantDue]
  by_cases hc : s.mayReceive c = true
  · have := h c ((State.mayReceive_iff s c).1 hc)
    simp only [hc, if_true, decide_eq_true_eq]
    omega
  · simp [hc]

/-- The search for a grant due finds none exactly when none is due. -/
theorem State.firstGrant_none_iff (s : State) : s.firstGrant = none ↔ s.NoGrantDue := by
  refine ⟨fun h c hc => ?_, s.firstGrant_none⟩
  have := List.find?_eq_none.1 h c (List.mem_finRange c)
  simp only [State.grantDue, (State.mayReceive_iff s c).2 hc, if_true, decide_eq_true_eq] at this
  omega

theorem State.laneCanBegin_iff (s : State) : (s.mgmt.returnMsg.isNone && s.returnReady) = true ↔ s.LaneCanBegin := by
  simp only [State.returnReady, State.returnLaneFree, State.LaneCanBegin, ← State.firstGrant_none_iff]
  cases s.mgmt.returnMsg <;> simp [and_assoc]

/-- Beginning a return-path message changes the Management Unit alone. -/
theorem State.returnBegin_mgmt_only (s : State) : s.returnBegin = { s with mgmt := s.returnBegin.mgmt } := by
  simp only [State.returnBegin, State.beginReturn, State.sendReturn, State.modMgmt]
  split
  · split
    · rfl
    · split <;> rfl
  · rfl

/-! ### Shared updates as records -/

theorem State.count_eq (s : State) (i : Option (Fin 256)) (a b : Nat) :
    s.count i a b = { s with counters := s.Counted i a b } := by
  cases i <;> simp [State.count, State.Counted, CounterPair.raise, satAdd, recordCountMax, byteCountMax]

theorem State.emitHeader_eq (s : State) (c : ChannelNo) (h : Option Header) :
    s.emitHeader c h =
      { s with
        tx := s.Emitted c h
        table := s.table.set c { s.ch c with outputStarted := (s.ch c).outputStarted || h.isSome } } := by
  have e : s.table.set c.val { s.ch c with outputStarted := (s.ch c).outputStarted || false } c.isLt = s.table := by
    rw [Bool.or_false]; exact Vector.set_getElem_self (xs := s.table) c.isLt
  cases h with
  | none => simp only [State.emitHeader, State.Emitted, Option.isSome_none, e]
  | some h =>
    simp [State.emitHeader, State.Emitted, State.hand, State.setTx, State.setCh, State.ch, State.txOf]

/-! ### Commands -/

/-- A command whose checks pass is carried out by its own rule. -/
theorem State.runCommand_eq (s : State) (code : RecType) (required optional : List RecType)
    (body : State → CommandRecord → State) (r : CommandRecord) (h : s.Carries code required optional r) :
    s.runCommand code required optional body = .next (body s r) := by
  obtain ⟨h1, h2, h3, h4⟩ := h
  simp [State.runCommand, State.readyFor, State.readyRecord, h1, h2, h3, h4]

/-- A command is answered with a response of its code's type. -/
theorem State.answer_eq (s : State) (r : CommandRecord) (e : Completion) (l : List Byte) :
    s.answer r e l = s.Answers r e l := rfl

/-! ### RESTART -/

@[simp] theorem State.carriedOut_next (s t : State) : s.carriedOut (.next t) = t := rfl

/-- An event between the takings of RESTART is its command carried out. -/
theorem State.takeDuring_eq (s : State) (e : RestartEvent) : exec e.command s = .next (s.takeDuring e) := by
  cases e <;>
    simp only [RestartEvent.command, exec, State.takeDuring, execTimebaseTick, execStall, execAwaitTakeSegment,
      execTakeSegmentFlags, execCompleteHeader, execTakePayloadRun, execBeginClose, execCompleteClose,
      execCarryOutPendingPush, execDegradePendingPush, execTakeJob, execSpillCompletion, execFillCompletion,
      execUpstreamLinkDown, execDownstreamLinkDown, execSegmentReceived, execDownstreamSegmentSent, State.carriedOut_next] <;>
    repeat' split
  all_goals rfl

/-- The events between the takings of RESTART are their commands carried out in order. -/
theorem carriedOut_during (es : List RestartEvent) (s : State) :
    CarriedOut (es.map RestartEvent.command) s (es.foldl State.takeDuring s) := by
  induction es generalizing s with
  | nil => rfl
  | cons e es ih => exact ⟨_, s.takeDuring_eq e, ih _⟩

/-- A select period carries its command, its address and its data bytes (Figure 5-2). -/
theorem SelectPeriod.sent_length (p : SelectPeriod) (h : p.dataOut.length ≤ p.dataCount) :
    p.sent.length = 3 + p.dataCount := by
  simp only [SelectPeriod.sent, wordBytes, List.cons_append, List.nil_append, List.length_cons, List.length_append,
    List.length_replicate]
  omega

/-- Sampling bits on the wires gives SDI while SCK is high, one level for each bit, and nothing after the last one. -/
theorem risingSamples_bits (sck : Bool) (bits : List Bool) (sdi : List (Bool × Bool)) (tail : List Bool)
    (h : sdi.length = bits.length) :
    risingSamples sck (bits.flatMap bitLevels ++ [{ WireLevels.rest with sselN := false }, WireLevels.rest])
      (sdi.flatMap (fun d => [d.1, d.2]) ++ tail) = sdi.map Prod.snd := by
  induction bits generalizing sck sdi with
  | nil =>
    cases sdi with
    | nil => rcases tail with _ | ⟨a, _ | ⟨b, _⟩⟩ <;> simp [risingSamples, WireLevels.rest]
    | cons d ds => simp at h
  | cons b bits ih =>
    cases sdi with
    | nil => simp at h
    | cons d ds =>
      have := ih true ds (by simpa using h)
      simpa [risingSamples, bitLevels] using this

/-- As many bytes are assembled as are asked for. -/
@[simp] theorem bitsBytes_length (n : Nat) (bits : List Bool) : (bitsBytes n bits).length = n := by
  induction n generalizing bits with
  | zero => rfl
  | succ n ih => simp [bitsBytes, ih]

/-- A read receives the data bytes of its period. -/
@[simp] theorem SelectPeriod.received_length (p : SelectPeriod) (sdi : List Bool) :
    (p.received sdi).length = p.dataCount := bitsBytes_length _ _

/-! ### The end of a step -/

/-- Nothing but the channel's assembler and record is withheld. -/
theorem State.withhold_eq (before after : State) (c : ChannelNo) :
    before.withhold after c =
      { after with
        tx := after.tx.set c (before.txOf c)
        table := after.table.set c { after.ch c with
          outputStarted := (before.ch c).outputStarted
          resident := (after.ch c).resident.take (before.ch c).resident.length } } := rfl

end Sys2Proof.Machine
end

