-- ==== Sys2Proof/WellFormed.lean ====
section
/-! DEFINITION. The checks a command's operands meet on the real wires. A command that fails one names an event that
cannot occur: SDI has one level for each level the port drives in its select periods (R87, R88, R93, R96). -/

namespace Sys2Proof

/-- The levels driven in a select period of `n` data bytes: two for each bit of its command, address and data, and two at its
end (R87, R88). -/
def periodLevels (n : Nat) : Nat := 16 * (3 + n) + 2

/-- A fill of k entries, k = 1, 2, 4 or 8, reads 8k bytes (R88, R90). -/
def fillLengthOk (n : Nat) : Bool := [1, 2, 4, 8].any fun k => n == periodLevels (8 * k)

/-- A probe writes 8 bytes and reads back 8 (R96). -/
def probeLengthOk (n : Nat) : Bool := n == periodLevels 8 + periodLevels 8

/-- The operands of a command are ones its event can have. -/
def Instr.wellFormed : Instr → Bool
  | .fillCompletion sdi => fillLengthOk sdi.length
  | .probeCompletion sdi => probeLengthOk sdi.length
  | .powerOnReset _ | .upstreamLinkDown | .upstreamLinkUp | .downstreamLinkDown | .downstreamLinkUp
  | .segmentReceived _ | .downstreamSegmentDiscard _ | .creditWordReceived _ _ | .creditWordGrant
  | .timebaseTick | .stall _ | .mgmtStallExpiry | .awaitTakeSegment | .takeSegmentFlags | .completeHeader
  | .takePayloadRun | .beginClose | .completeClose | .carryOutPendingPush | .degradePendingPush | .takeJob
  | .spillCompletion | .downstreamSegmentSend | .downstreamSegmentSent | .returnMessageBegin
  | .returnSegmentSend | .responseSent | .noticeSent | .mgmtTakeSegment | .mgmtParseBytes | .unknownCommand
  | .identify | .status | .channelSet | .channelGet | .channelReset | .policyInsert | .policyDelete
  | .policyRead | .defaultSet | .commit | .countersRead | .pairRead | .backingRestore | .provisionClose
  | .restart | .copyCompletion => true

end Sys2Proof
end

