-- ==== Sys2Proof/Tests/Slice0.lean ====
section
/-! SUPPORT. The model's own tests: ill-formed commands that WellFormed refuses, one small step for the commands' families, and
for every statement with hypotheses a state and operands that meet them, at the boundaries of their clauses. -/

namespace Sys2Proof.Tests

/- One theorem at a time: many at once would hold a thread's stack each. -/
set_option Elab.async false

open Sys2Proof Sys2Proof.Machine

/-! ### Well-formedness -/

theorem test_fill_of_three_entries_refused :
    (Instr.fillCompletion (List.replicate (periodLevels 24) false)).wellFormed = false := by decide +kernel
theorem test_fill_of_no_entry_refused : (Instr.fillCompletion []).wellFormed = false := by decide
theorem test_fill_of_eight_entries_accepted :
    (Instr.fillCompletion (List.replicate (periodLevels 64) false)).wellFormed = true := by decide +kernel
theorem test_probe_of_one_period_refused :
    (Instr.probeCompletion (List.replicate (periodLevels 8) false)).wellFormed = false := by decide +kernel
theorem test_probe_of_two_periods_accepted :
    (Instr.probeCompletion (List.replicate (2 * periodLevels 8) false)).wellFormed = true := by decide +kernel

/-! ### Small states: management channel 0, data channel 1 -/

/-- Both ports UP, in PROVISIONING. -/
def linked : State := { State.reset with upPort := .up, dnPort := .up }

/-- Both ports UP, in OPERATING, data channel 1 in AWAIT. -/
def open1 : State :=
  { linked with mgmt := { linked.mgmt with phase := .operating } }.modCh 1 fun ch => { ch with state := .await }

/-- A message open on channel 1, bound to bank A, with one reference. -/
def inMessage : State :=
  (open1.modPolicy fun p => { p with bankA := { p.bankA with refs := 1 } }).modCh 1 fun ch =>
    { ch with state := .inMessage, bound := some { bank := .a, set := 0 }, stallTimer := 10000, stallArmed := true }

/-- A segment in use on channel 1. -/
def using1 (rest : List Byte) (eom : Bool) (f : Channel → Channel) : State :=
  (inMessage.modRx 1 fun r => { r with inUse := some { rest := rest, eom := eom } }).modCh 1 f

/-- A segment waiting on a channel. -/
def waiting (s : State) (c : ChannelNo) (g : Segment) : State := s.modRx c fun r => { r with ingress := [g] }

def seg (som eom abort : Bool) (payload : List Byte) : Segment :=
  { som := som, eom := eom, abort := abort, payload := payload, seqBreak := false }

/-- A FILTER scope. -/
def filterScope (m : ScopeMode) : ScopeEntry :=
  { type := 0x120, disposition := .filter, mode := m, consumed := 0, looked := true }

/-- A DISCARD scope. -/
def discardScope : ScopeEntry :=
  { type := 0x044, disposition := .discard, mode := .indefinite, consumed := 0, looked := true }

/-- An egress buffer without room: seven ordinary segments, 63 pending bytes. -/
def fullTx (t : TxChannel) : TxChannel :=
  { t with
    egress := List.replicate 7 { payload := List.replicate 64 0, som := false, eom := false, abort := false }
    pendingBytes := List.replicate 63 0 }

/-- A command record with TAG hex 0001 and these arguments. -/
def record (code : RecType) (args : List Arg) : CommandRecord :=
  { CommandRecord.empty with code := code, args := { type := Leaf.tag, value := [0, 1] } :: args }

def arg (t : RecType) (v : List Byte) : Arg := { type := t, value := v }

/-- The unit holds a completed record. -/
def holding (s : State) (r : CommandRecord) : State := s.modMgmt fun m => { m with unit := .executing (.ready r) }

/-- The part of a step's outcome that a test looks at. -/
def after {α : Type} (o : Host.Outcome State Fault Refusal) (f : State → α) : Option α :=
  match o with
  | .next s => some (f s)
  | .fault _ => none
  | .refused _ => none

/-! ### One step -/

theorem test_step_takes_front : step { linked with pending := [.upstreamLinkDown, .status] } =
    exec .upstreamLinkDown { linked with pending := [.status] } := rfl

theorem test_core_step : Sys2Proof.core.step = step := rfl

theorem test_power_on_drops_link : after (exec (.powerOnReset Straps.atReset) linked) (fun s => s.upPort) = some .down := by
  decide

theorem test_link_up : after (exec .upstreamLinkUp State.reset) (fun s => (s.upPort, s.firstGrant)) = some (.up, some 0) := by
  decide

theorem test_link_down_faults : after (exec .downstreamLinkDown (inMessage.modCh 1 fun ch => { ch with outputStarted := true }))
    (fun s => ((s.ch 1).state, (s.ch 1).lastFaultKind, s.mgmt.notices.length)) = some (.await, .link, 1) := by decide +kernel

theorem test_segment_received : after (exec (.segmentReceived (encodeSegment 0 5 true true false [1, 2]))
      (linked.modRx 0 fun r => { r with credit := 4 })) (fun s => ((s.rxOf 0).ingress, (s.rxOf 0).credit)) =
    some ([seg true true false [1, 2]], 3) := by decide +kernel

theorem test_short_unit_is_counted_once : after (exec (.segmentReceived [0]) linked)
    (fun s => s.linkErrors.crc + s.linkErrors.badHeader) = some 1 := by
  simp only [exec, execSegmentReceived, decodeSegment, checkUnit]
  cases Config.shortUnitCountsAsCrc [0] <;> decide

theorem test_credit_word : after (exec (.creditWordReceived .upstream (encodeCredit 0 8)) linked)
    (fun s => s.mgmt.credits) = some 4 := by decide +kernel

theorem test_first_credit_word : after (exec .creditWordGrant linked) (fun s => s.mgmt.returnUnit) =
    some (some (.creditWord [0x00, 0x04, 0x5D, 0x8B])) := by decide +kernel

theorem test_await_takes_segment : after (exec .awaitTakeSegment (waiting open1 1 (seg true false false [1])))
    (fun s => ((s.ch 1).state, s.policy.bankA.refs, s.turn)) = some (.inMessage, 1, some 1) := by decide

theorem test_pass_by_default : after (exec .completeHeader (using1 [0x02, 0x00, 0x00, 0x03, 7] false id))
    (fun s => ((s.ch 1).parse, (s.txOf 1).pendingBytes, (s.rxOf 1).inUse)) =
    some (.copy 3 0, [0x02, 0x00, 0x00, 0x03], some { rest := [7], eom := false }) := by decide +kernel

theorem test_reserved_bits_fault : after (exec .completeHeader (using1 [0x12, 0x00, 0x00, 0x03] false id))
    (fun s => ((s.ch 1).lastFaultKind, (s.ch 1).lastFaultReason, (s.ch 1).state)) =
    some (.malformed, .reservedBits, .await) := by decide +kernel

theorem test_clean_end : after (exec .takePayloadRun (using1 [7] true fun ch => { ch with parse := .copy 1 0 }))
    (fun s => ((s.ch 1).state, (s.txOf 1).egress, (s.ch 1).stats.completed, s.policy.bankA.refs)) =
    some (.await, [{ payload := [7], som := true, eom := true, abort := false }], 1, 0) := by decide +kernel

theorem test_stall : after (exec (.stall 1) (inMessage.modCh 1 fun ch => { ch with stallTimer := 0 }))
    (fun s => ((s.ch 1).state, (s.ch 1).lastFaultKind)) = some (.await, .stall) := by decide

theorem test_identify_response : after (exec .identify (holding linked (record 0xF01 []))) (fun s => s.mgmt.response) =
    some (some ([0x8E, 0x01, 0x00, 0x28, 0x00, 0x01, 0x00, 0x02, 0x00, 0x01, 0x00, 0x02, 0x00, 0x01, 0x00] ++
      [0x00, 0x30, 0x00, 0x02, 0x3E, 0x51, 0x00, 0x31, 0x00, 0x02, 0x04, 0x16, 0x00, 0x32, 0x00, 0x01, 0x01] ++
      [0x00, 0x33, 0x00, 0x03, 0x00, 0x01, 0x00, 0x00, 0x34, 0x00, 0x01, 0x00])) := by decide +kernel

theorem test_provision_close_requests_probe : after (exec .provisionClose (holding linked (record 0xF0D [])))
    (fun s => (s.spill.pendingProbe, (s.ch 1).window, (s.ch 2).window, (s.ch 0).window)) =
    some (true, some 0, some 8, none) := by decide +kernel

theorem test_policy_insert : after (exec .policyInsert (holding linked
      (record 0xF06 [arg Leaf.set [1], arg Leaf.type [0x00, 0x10], arg Leaf.action [2]])))
    (fun s => s.policy.bankB.entries) =
    some [{ set := 1, type := 0x010, action := .drop, remap := none, countIndex := none }] := by decide +kernel

theorem test_restart_holds_channels : after (exec .restart (holding inMessage (record 0xF0E [])))
    (fun s => ((s.ch 1).state, s.mgmt.phase, s.mgmt.unit, s.policy.bankA.refs)) =
    some (.held, .provisioning, .responding, 0) := by decide +kernel

/-- A stall between the takings of RESTART: its notice is queued on the emptied queue, and the channel is HELD. -/
theorem test_notice_during_restart : after (exec .restart
      { holding (inMessage.modCh 1 fun ch => { ch with stallTimer := 0 }) (record 0xF0E []) with
        duringRestart := [.stall 1] })
    (fun s => ((s.ch 1).state, s.mgmt.notices, s.mgmt.lost, s.duringRestart)) =
    some (.held, [.channelFault 1 .stall .none 0 0], 0, []) := by decide +kernel

/-- The bytes of a fill of one entry, and the wires of its first bits. -/
theorem test_fill_bytes : (fillPeriod { channel := 1, kind := .fill, count := 1, start := 1 }).sent =
      [0x03, 0x02, 0x08] ++ List.replicate 8 0 ∧
    (fillPeriod { channel := 1, kind := .fill, count := 1, start := 1 }).sent.length = 11 ∧
    (fillPeriod { channel := 1, kind := .fill, count := 1, start := 1 }).levels[13]? =
      some { sselN := false, sck := true, sdo := true } := by decide +kernel

/-- SDI over a read of these data bytes: each bit stands while SCK is high, and every other level is high. -/
def heardOn (read : List Byte) : List Bool :=
  List.replicate 48 true ++ (read.flatMap byteBits).flatMap (fun b => [true, b]) ++ [true, true]

/-- The port samples SDI as SCK rises, ignores the 24 bits of the command and the address, and takes bytes most significant bit
first. -/
theorem test_received_bytes : (fillPeriod { channel := 1, kind := .fill, count := 1, start := 1 }).received
      (heardOn [0x80, 0x01, 0xA5, 0, 0xFF, 0x12, 0x34, 0x7E]) = [0x80, 0x01, 0xA5, 0, 0xFF, 0x12, 0x34, 0x7E] := by
  decide +kernel

/-- A segment with EOM that ends in the payload of the message's first record: no byte of the failing step is emitted, so no
ABORT follows; after output of an earlier step one does. -/
theorem test_ragged_step_is_withheld : [false, true].map (fun started =>
      after (exec .completeHeader (using1 [0x02, 0x00, 0x00, 0x03] true fun ch => { ch with outputStarted := started }))
        fun s => ((s.ch 1).lastFaultKind, (s.txOf 1).egress.length, (s.txOf 1).pendingBytes)) =
    [some (.ragged, 0, []), some (.ragged, 1, [])] := by decide +kernel

/-- A scope opened by the failing step is not pushed: the fault reports the depth without it. -/
theorem test_ragged_push_is_withheld :
    after (exec .completeHeader (using1 [0x80, 0x01, 0xFF, 0xFF] true id)) (fun s => (s.mgmt.notices, (s.txOf 1).egress)) =
    some ([.channelFault 1 .ragged .none 0 0], []) := by decide +kernel

theorem test_collects_a_command : after (exec .mgmtParseBytes
      ((linked.modRx 0 fun r => { r with inUse := some { rest := commandBytes 0xF01 [arg Leaf.tag [0, 1]], eom := true } }).modMgmt
        fun m => { m with unit := .collecting, messageOpen := true }))
    (fun s => s.mgmt.unit) = some (.executing (.ready (record 0xF01 []))) := by decide +kernel

/-- A probe in flight for a PROVISION CLOSE, with three return-path credits and no grant due. -/
def probing : State :=
  ((linked.modRx 0 fun r => { r with credit := 4 }).modMgmt fun m =>
    { m with credits := 3, unit := .executing (.provisionClose none) }).modSpill fun p =>
      { p with
        pendingProbe := true
        inFlight := some (.probe { command := 0x02, address := 0x2000, dataOut := List.replicate 8 7, dataCount := 8 }
          { command := 0x03, address := 0x2000, dataOut := [], dataCount := 8 }) }

/-- Steps 7 to 9 of Figure 11-4: the notice is begun, then the part opens and the response is formed. -/
theorem test_probe_notice_goes_first : after (exec (.probeCompletion (heardOn (List.replicate 8 0) ++ heardOn (List.replicate 8 7))) probing)
    (fun s => (s.mgmt.credits, s.mgmt.returnMsg, s.mgmt.phase, (s.ch 1).state)) =
    some (2, some { kind := .notice 0, rest := [] }, .operating, .await) := by decide +kernel

theorem test_scope_entry_round_trip :
    verifyAll 3 2 4 (serializeAll 3 4 [filterScope (.definite 65534), discardScope]) =
      some [filterScope (.definite 65534), discardScope] := by decide +kernel

/-! ### Every statement's hypotheses are met -/

theorem test_meets_step : ({ linked with pending := [.status] } : State).pending = .status :: [] ∧ linked.pending = [] :=
  ⟨rfl, rfl⟩

/-- Events that cannot occur, and events that can. -/
theorem test_meets_occurs : ¬ linked.Occurs .upstreamLinkUp ∧ linked.Occurs .upstreamLinkDown ∧ ¬ linked.Occurs .identify ∧
    (holding linked (record 0xF01 [])).Occurs .identify ∧ ¬ linked.Occurs .takeSegmentFlags ∧ ¬ linked.Occurs (.stall 1) := by
  refine ⟨by simp [State.Occurs, linked], rfl, ?_, ⟨_, rfl, rfl, rfl⟩, ?_, ?_⟩
  · rintro ⟨_, h, _⟩; nomatch h
  · rintro ⟨c, h⟩; exact absurd h (by rw [show linked.servedFor .takeFlags = none by decide +kernel]; nofun)
  · rintro ⟨⟨_, h, _⟩, _⟩; nomatch h

theorem test_meets_link_events : State.reset.upPort = .down ∧ State.reset.dnPort = .down ∧ linked.upPort = .up ∧
    linked.dnPort = .up := by decide

/-- The legal payloads at their boundaries, and the least and greatest counts of a credit word. -/
theorem test_meets_link_units : LegalSegment false false (List.replicate 64 0) ∧ LegalSegment true false [] ∧
    LegalSegment false true [] ∧ LegalSegment false false [0] ∧ 1 ≤ 1 ∧ 8 ≤ 8 := by
  unfold LegalSegment; decide

theorem test_meets_received_segment : (open1.modRx 1 fun r => { r with credit := 1 }).upPort = .up ∧
    0 < ((open1.modRx 1 fun r => { r with credit := 1 }).rxOf 1).credit ∧
    (open1.modRx 1 fun r => { r with credit := 1 }).Receives 1 := by unfold State.Receives; decide

/-- A failing CRC; a failing header; no credit; credit on a channel that may not receive. -/
theorem test_meets_discarded_units :
    (([0, 0, 0, 0] : List Byte).drop 2 ≠ wordBytes (crc16 [0, 0])) ∧ ((0x60 : Byte) &&& 0x1F = 0) ∧
    ((0x01 : Byte) &&& 0x1F ≠ 0) ∧ 2 ≤ (withCrc ([0, 1, 0, 0] : List Byte)).length ∧ (linked.rxOf 1).credit = 0 ∧
    ¬ (linked.modRx 1 fun r => { r with credit := 4 }).Receives 1 ∧ ([0] : List Byte).length < 2 ∧
    ([0, 0, 0] : List Byte).length < 4 := by unfold State.Receives; decide +kernel

theorem test_meets_credit_words : linked.portState .upstream = .up ∧ linked.portState .downstream = .up ∧
    (0 : ChannelNo) = linked.straps.mgmtSel ∧ (1 : ChannelNo) ≠ linked.straps.mgmtSel ∧
    (withCrc ([0x10, 0x09] : List Byte)).length = 4 ∧ 8 < (0x09 : Byte).toNat ∧
    ((0x10 : Byte) >>> 4).toNat ≠ linked.straps.mgmtSel.val ∧ ((0x00 : Byte) >>> 4).toNat = linked.straps.mgmtSel.val := by
  decide +kernel

/-- A grant is due with the return path free, and between two segments of a message. -/
theorem test_meets_grant : linked.upPort = .up ∧ linked.mgmt.returnMsg = none ∧ linked.Receives 0 ∧
    ({ kind := .response, rest := [1] } : ReturnMessage).rest ≠ [] ∧
    (linked.rxOf 0).credit + (linked.rxOf 0).occupied < 4 ∧
    ∀ d : ChannelNo, d < 0 → ¬ linked.Receives d ∨ 4 ≤ (linked.rxOf d).credit + (linked.rxOf d).occupied := by
  unfold State.Receives; decide

/-- Channels 1 and 15 can send; 1 comes first after 15. -/
def sending : State :=
  (linked.modTx 1 fun t => { t with egress := [{ payload := [1], som := true, eom := false, abort := false }], credits := 1 }).modTx
    15 fun t => { t with egress := [{ payload := [], som := true, eom := true, abort := false }], credits := 8 }

theorem test_meets_downstream_lane : sending.dnPort = .up ∧ sending.dnSending = none ∧
    FirstAfter sending.dnPointer
      (fun d => d ≠ sending.straps.mgmtSel ∧ (sending.txOf d).egress ≠ [] ∧ 0 < (sending.txOf d).credits) 1 := by
  unfold FirstAfter; decide +kernel

theorem test_meets_sent_segment :
    ({ sending with dnSending := some { channel := 1, bytes := [] } } : State).dnSending =
      some { channel := 1, bytes := [] } ∧
    (sending.txOf 1).egress = [{ payload := [1], som := true, eom := false, abort := false }] := by decide

/-- The return path is ready: the management channel's credit is granted and a credit is left. -/
def returning (m : MgmtUnit → MgmtUnit) : State :=
  (linked.modRx 0 fun r => { r with credit := 4 }).modMgmt fun x => m { x with credits := 1 }

theorem test_meets_response : (returning fun m => { m with unit := .responding, response := some [1] }).NoGrantDue ∧
    0 < (returning fun m => { m with unit := .responding, response := some [1] }).mgmt.credits ∧
    (returning fun m => { m with unit := .responding, response := some [1] }).mgmt.response = some [1] := by
  unfold State.NoGrantDue State.Receives; decide

theorem test_meets_notice : (returning fun m => { m with notices := [.commitSettled .a] }).NoGrantDue ∧
    (returning fun m => { m with notices := [.commitSettled .a] }).mgmt.unit ≠ .responding ∧
    (returning fun m => { m with notices := [.commitSettled .a] }).mgmt.notices = [.commitSettled .a] := by
  unfold State.NoGrantDue State.Receives; decide

theorem test_meets_next_segment :
    (returning fun m => { m with returnMsg := some { kind := .response, rest := List.replicate 65 0 } }).NoGrantDue ∧
    List.replicate 65 (0 : Byte) ≠ [] := by unfold State.NoGrantDue State.Receives; decide

/-- A response sent whole, with and without an open message, and a segment in use with and without bytes left. -/
def responded (isOpen : Bool) (u : Option InUse) (c : Collector) : State :=
  (linked.modMgmt fun m =>
    { m with messageOpen := isOpen, collector := c, returnMsg := some { kind := .response, rest := [] } }).modRx 0
      fun r => { r with inUse := u }

theorem test_meets_response_sent (isOpen : Bool) (u : Option InUse) (c : Collector) :
    (responded isOpen u c).mgmt.returnMsg = some { kind := .response, rest := [] } ∧
    (responded isOpen u c).mgmt.messageOpen = isOpen ∧ (responded isOpen u c).mgmt.collector = c ∧
    ((responded isOpen u c).rxOf (responded isOpen u c).straps.mgmtSel).inUse = u := ⟨rfl, rfl, rfl, rfl⟩

theorem test_meets_notice_sent :
    (linked.modMgmt fun m => { m with returnMsg := some { kind := .notice 255, rest := [] } }).mgmt.returnMsg =
      some { kind := .notice 255, rest := [] } := rfl

/-- A channel whose job is in flight, and one whose job is not. -/
theorem test_meets_unwind :
    (∃ j p, (inMessage.modSpill fun x => { x with inFlight := some (.data { channel := 1, kind := .spill, count := 1, start := 0 }
      (fillPeriod { channel := 1, kind := .spill, count := 1, start := 0 })) }).spill.inFlight = some (.data j p) ∧
      j.channel = 1) ∧
    ¬ ∃ j p, inMessage.spill.inFlight = some (.data j p) ∧ j.channel = 1 :=
  ⟨⟨_, _, rfl, rfl⟩, fun ⟨_, _, h, _⟩ => nomatch h⟩

theorem test_meets_notice_queue :
    (linked.modMgmt fun m => { m with notices := List.replicate 31 (.commitSettled .a) }).mgmt.notices.length < 32 ∧
    32 ≤ (linked.modMgmt fun m => { m with notices := List.replicate 32 (.commitSettled .a) }).mgmt.notices.length := by
  decide

theorem test_meets_timer : (inMessage.modCh 1 fun ch => { ch with stallTimer := 0 }).TimerRuns 1 ∧
    ((inMessage.modCh 1 fun ch => { ch with stallTimer := 0 }).ch 1).stallTimer = 0 ∧ ¬ inMessage.TimerRuns 2 := by
  refine ⟨⟨by decide, by decide, by decide, by decide, ?_, by decide, by decide, ?_, by decide⟩, by decide, ?_⟩
  · intro e h; nomatch h
  · rintro ⟨_, e, h, _⟩; nomatch h
  · rintro ⟨_, h, _⟩; revert h; decide

/-- The management unit COLLECTING. -/
def collecting (f : MgmtUnit → MgmtUnit) (u : Option InUse) : State :=
  (linked.modMgmt fun m => f { m with unit := .collecting, messageOpen := true }).modRx 0 fun r => { r with inUse := u }

/-- Each segment taken in COLLECTING loads the management stall timer, with any mark or flag. -/
theorem test_mgmt_segment_loads_timer : ∀ g ∈ [{ seg false true false [1] with seqBreak := true }, seg false false true [],
      seg true false false [1], seg false false false [1]],
    after (exec .mgmtTakeSegment (waiting (collecting id none) 0 g)) (fun s => s.mgmt.stallTimer) = some 10000 := by
  decide +kernel

theorem test_meets_mgmt_timer : (collecting (fun m => { m with stallArmed := true }) none).MgmtTimerRuns ∧
    (collecting (fun m => { m with stallArmed := true }) none).mgmt.stallTimer = 0 ∧ ¬ linked.MgmtTimerRuns := by
  unfold State.MgmtTimerRuns; decide

/-- A management segment waits in IDLE, and one waits in COLLECTING, with any flags. -/
theorem test_meets_mgmt_segments (g : Segment) : (waiting linked 0 g).mgmt.unit = .idle ∧
    ((waiting linked 0 g).rxOf 0).inUse = none ∧ ((waiting linked 0 g).rxOf 0).ingress = [g] ∧
    (waiting (collecting id none) 0 g).mgmt.unit = .collecting ∧
    ((waiting (collecting id none) 0 g).rxOf 0).ingress = [g] := ⟨rfl, rfl, rfl, rfl, rfl⟩

/-- A record of all eighteen arguments, and one of none. -/
theorem test_meets_collected_record :
    (∀ a ∈ argTable.map fun p => arg p.1 (List.replicate p.2 0), argLength a.type = some a.value.length) ∧
    ((argTable.map fun p => arg p.1 (List.replicate p.2 0)).map Arg.type).Nodup ∧ ((0xF01 : RecType) ≠ 0) ∧
    (collecting id none).mgmt.collector.pos = .header [] ∧ (collecting id none).mgmt.collector.scopes = [] := by
  decide +kernel

/-- The ends of every argument's range, by type number: the values in range, then those out of it. -/
theorem test_argument_ranges : ([(0x001, [0, 65535], []), (0x010, [0, 15], [16]), (0x011, [0, 1], [2]), (0x012, [0, 7], [8]),
      (0x013, [0, 2, 4, 8, 16], [1, 3, 5, 15, 17, 32]), (0x014, [1, 64], [0, 65]), (0x015, [0, 65535], []),
      (0x016, [0, 1], [2]), (0x020, [0, 1], [2])] ++
    [(0x021, [0, 7], [8]), (0x022, [1, 4095], [0, 4096]), (0x023, [0, 3], [4]), (0x024, [1, 4095], [0, 4096]),
      (0x025, [0, 255], []), (0x026, [0, 65534], [65535]), (0x027, [0, 1023], [1024]), (0x028, [0, 255], []),
      (0x029, [1, 16], [0, 17])] : List (RecType × List Nat × List Nat)).all
    (fun p => p.2.1.all (argInRange p.1) && !p.2.2.any (argInRange p.1)) = true := by decide +kernel

/-- The byte count of each argument type, by type number, and the types beside them, which are no arguments. -/
theorem test_argument_lengths : ([0x001, 0x015, 0x022, 0x024, 0x026, 0x027] : List RecType).map argLength =
      List.replicate 6 (some 2) ∧
    ([0x010, 0x011, 0x012, 0x013, 0x014, 0x016, 0x020, 0x021, 0x023, 0x025, 0x028, 0x029] : List RecType).map argLength =
      List.replicate 12 (some 1) ∧
    ([0x000, 0x002, 0x003, 0x00F, 0x017, 0x01F, 0x02A, 0x030, 0xFFF] : List RecType).map argLength =
      List.replicate 9 none := by decide +kernel

/-- A command of every kind of record, in both forms, and a leaf. -/
def everyItem : List Item :=
  [.leaf Leaf.tag [0, 1], .leaf Leaf.tag [0, 2], .leaf Leaf.channel [], .leaf 0x123 [7], .definite 0x124 [],
    .indefinite 0x125 [{ form := .leaf, type := 1, payload := [9] }, { form := .container, type := 2, payload := [8] }]]

theorem test_meets_stream_records :
    (StreamRecord.command true 0xF01 everyItem).Legal ∧ (StreamRecord.command false 0xF01 everyItem).Legal ∧
    (StreamRecord.leaf 0x001 [1, 2]).Legal := by
  have h : ∀ i ∈ everyItem, i.Legal := by
    simp [everyItem, Item.Legal, LegalRecord, Leaf.tag, Leaf.channel]
  exact ⟨⟨by decide, h, fun _ => by decide +kernel⟩, ⟨by decide, h, nofun⟩, by decide, by decide⟩

theorem test_notes_of_a_command : (StreamRecord.command false 0xF01 everyItem).completed =
    { isContainer := true, code := 0xF01, args := [{ type := Leaf.tag, value := [0, 1] }], nested := true
      duplicates := [Leaf.tag], wrongLength := true, foreign := [0x123] } := by decide +kernel

/-- The record is completed from its bytes, whole and cut in two. -/
theorem test_collects_every_item :
    after (exec .mgmtParseBytes (collecting id
      (some { rest := (StreamRecord.command false 0xF01 everyItem).bytes ++ [1], eom := true })))
      (fun s => (s.mgmt.unit, (s.rxOf 0).inUse)) =
    some (.executing (.ready (StreamRecord.command false 0xF01 everyItem).completed), some { rest := [1], eom := true }) ∧
    after (exec .mgmtParseBytes (collecting id
      (some { rest := (StreamRecord.command true 0xF01 everyItem).bytes.take 38, eom := true })))
      (fun s => (s.mgmt.unit, s.mgmt.notices)) =
    some (.idle, [.channelFault 0 .ragged .none 2 0]) := by decide +kernel

/-- A segment that neither begins nor completes its record, and the record's depth at its ends. -/
theorem test_collects_a_middle_segment :
    after (exec .mgmtParseBytes (collecting
      (fun m => { m with collector := { Collector.empty with scopes := [{ mode := .indefinite, consumed := 0 }] } })
      (some { rest := ((StreamRecord.command false 0xF01 everyItem).bytes.drop 4).take 30, eom := false })))
      (fun s => (s.mgmt.collector.scopes.length, (s.rxOf 0).inUse)) = some (2, none) ∧
    [3, 4, 32, 33, 46, 47, 50].map (StreamRecord.command false 0xF01 everyItem).depthAt = [0, 1, 1, 2, 2, 1, 1] := by decide +kernel

/-- A collector with these scopes, innermost first, and one header byte collected. -/
def within (scopes : List CollectScope) (b0 : Byte) (rest : List Byte) : State :=
  collecting (fun m => { m with collector := { Collector.empty with pos := .header [b0], scopes := scopes } })
    (some { rest := rest, eom := true })

/-- Each fault of a header in the management stream: a must-be-zero bit, a stray End record at depth 0 and in a definite scope,
an overrun, an End record that finds its parent short, a third scope. -/
theorem test_meets_mgmt_header_faults :
    ([within [] 0x10 [0, 0, 0], within [] 0 [0, 0, 0], within [{ mode := .definite 4, consumed := 0 }] 0 [0, 0, 0],
      within [{ mode := .definite 4, consumed := 0 }] 0 [1, 0, 1],
      within [{ mode := .indefinite, consumed := 4 }, { mode := .definite 11, consumed := 0 }] 0 [0, 0, 0],
      within [{ mode := .indefinite, consumed := 0 }, { mode := .definite 99, consumed := 0 }] 0x80 [1, 0xFF, 0xFF]].map
        fun s => after (exec .mgmtParseBytes s) fun t => t.mgmt.notices) =
    [(.malformed, .reservedBits, 0), (.malformed, .strayEnd, 0), (.malformed, .strayEnd, 1), (.malformed, .overrun, 1),
      (.malformed, .lateOverrun, 1), (.depth, .none, 2)].map
        fun (x : FaultKind × Reason × Nat) => some [Notice.channelFault 0 x.1 x.2.1 x.2.2 0] := by decide +kernel

/-! ### The engine's hypotheses -/

theorem test_meets_round_robin : (waiting open1 1 (seg true true false [])).Eligible 1 ∧
    (waiting open1 1 (seg true true false [])).turn = none ∧ (∀ d, ¬ linked.Eligible d) := by
  refine ⟨⟨by decide, Or.inl ⟨by decide, by decide⟩⟩, rfl, ?_⟩
  have h : ∀ d : ChannelNo, (linked.ch d).state ≠ .await ∧ (linked.ch d).state ≠ .inMessage := by decide
  rintro d ⟨_, ⟨e, _⟩ | ⟨e, _⟩⟩
  · exact (h d).1 e
  · exact (h d).2 e

/-- Each kind of step is due in some state. -/
theorem test_meets_steps :
    (waiting open1 1 (seg true false false [1])).servedFor .awaitTake = some 1 ∧
    (waiting inMessage 1 (seg false false false [1])).servedFor .takeFlags = some 1 ∧
    (using1 [0, 0, 0, 0] false id).servedFor .completeHeader = some 1 ∧
    (using1 [7] false fun ch => { ch with parse := .copy 1 0 }).servedFor .payloadRun = some 1 ∧
    (using1 [7] false fun ch => { ch with parse := .skip 2 }).servedFor .payloadRun = some 1 ∧
    (using1 [] false fun ch => { ch with resident := [filterScope (.definite 0)] }).servedFor .beginClose = some 1 ∧
    (using1 [] false fun ch => { ch with parse := .closePending discardScope }).servedFor .completeClose = some 1 := by
  decide +kernel

/-- A segment with each mark and flag that R39 considers, and one with no bytes. -/
theorem test_meets_flags : ∀ g ∈ [{ seg false true false [1] with seqBreak := true }, seg false false true [],
      seg true false false [1], seg false false false [1], seg false true false []],
    ((waiting inMessage 1 g).rxOf 1).ingress = [g] ∧ (waiting inMessage 1 g).servedFor .takeFlags = some 1 := by
  decide +kernel

/-- Each of them loads the stall timer. -/
theorem test_segment_loads_timer : ∀ g ∈ [{ seg false true false [1] with seqBreak := true }, seg false false true [],
      seg true false false [1], seg false false false [1], seg false true false []],
    after (exec .takeSegmentFlags (waiting (inMessage.modCh 1 fun ch => { ch with stallTimer := 3 }) 1 g))
      (fun s => (s.ch 1).stallTimer) = some 10000 := by decide +kernel

theorem test_meets_segment_end : ((using1 [] false id).rxOf 1).inUse = some { rest := [], eom := false } ∧
    ((using1 [] true id).ch 1).EndsCleanly ∧ ¬ ((using1 [] true fun ch => { ch with outputDepth := 1 }).ch 1).EndsCleanly ∧
    ((using1 [] true fun ch => { ch with resident := [filterScope (.definite 0)] }).ch 1).OwesClose ∧
    ¬ ((using1 [] false id).ch 1).OwesClose := by
  refine ⟨by decide, by unfold Channel.EndsCleanly; decide, by unfold Channel.EndsCleanly; decide,
    ⟨by decide, by decide, _, rfl, rfl⟩, ?_⟩
  rintro ⟨_, _, e, h, _⟩; nomatch h

/-- Headers at the boundaries of the tests. -/
theorem test_meets_header_tests :
    headerFault (Header.ofBytes 0x70 0 0 0) = some .reservedBits ∧ headerFault (Header.ofBytes 0 0 0 1) = some .badEnd ∧
    headerFault (Header.ofBytes 0x80 0 0 0) = some .badEnd ∧
    headerFault (Header.ofBytes 0 1 0xFF 0xFF) = some .leafIndefinite ∧ headerFault (Header.ofBytes 0 0 0 0) = none ∧
    headerFault (Header.ofBytes 0 1 0xFF 0xFE) = none ∧
    (ScopeMode.definite 7).deductChild (Header.ofBytes 0 1 0 4) = none ∧
    (ScopeMode.definite 8).deductChild (Header.ofBytes 0 1 0 4) = some (.definite 0) ∧
    (ScopeMode.definite 3).deductChild (Header.ofBytes 0x80 1 0xFF 0xFF) = none ∧
    (ScopeMode.definite 4).deductChild (Header.ofBytes 0x80 1 0xFF 0xFF) = some (.definite 4) := by decide

/-- A bank with an entry for a key, and the verdicts of a hit and of a miss. -/
theorem test_meets_lookup :
    let b : Bank := { (inMessage.policy.bank .a) with
      entries := [{ set := 0, type := 5, action := .drop, remap := some 6, countIndex := some 255 }] }
    b.Ordered ∧ b.lookup 0 5 = { action := .drop, remap := some 6, countIndex := some 255 } ∧
      b.lookup 7 5 = { action := .pass, remap := none, countIndex := none } ∧
      (inMessage.ch 1).bound = some { bank := .a, set := 0 } := by unfold Bank.Ordered; decide +kernel

/-- A header due on channel 1: its three first bytes collected, the fourth waiting. -/
theorem test_meets_header_due : ∀ scopes ∈ [[], [filterScope (.definite 3)], [discardScope]],
    (using1 [4] false fun ch => { ch with parse := .header [0x02, 0x00, 0x00], resident := scopes }).HeaderDue 1
      [0x02, 0x00, 0x00] [] 4 [] false (Header.ofBytes 0x02 0x00 0x00 4) := by
  unfold State.HeaderDue; decide +kernel

theorem test_meets_stray_end : (using1 [0, 0, 0, 0] false id).HeaderDue 1 [] [0, 0, 0] 0 [] false (Header.ofBytes 0 0 0 0) ∧
    (Header.ofBytes 0 0 0 0).isEnd = true ∧ ((using1 [0, 0, 0, 0] false id).ch 1).resident = [] := ⟨⟨rfl, rfl, rfl, rfl⟩, rfl, rfl⟩

/-- A leaf carried by the default PASS at depth 0, and one dropped in a DISCARD scope. -/
theorem test_meets_bulk :
    (using1 [2, 0, 0, 3] false id).Admits 1 (Header.ofBytes 2 0 0 3) ∧
    (using1 [2, 0, 0, 3] false id).Handled 1 (Header.ofBytes 2 0 0 3)
      (.bulk (some (Header.ofBytes 2 0 0 3)) 3 0) true none ∧
    (using1 [2, 0, 0, 3] false fun ch => { ch with resident := [discardScope] }).Handled 1 (Header.ofBytes 2 0 0 3)
      (.bulk none 0 3) false none := by
  refine ⟨⟨by decide, by decide, ?_⟩, ⟨?_, ?_⟩, ⟨?_, ?_⟩⟩
  · intro e h; nomatch h
  · rintro v rfl _; decide +kernel
  · intro e h; nomatch h
  · rintro v rfl (h | ⟨e, h, g⟩)
    · nomatch h
    · cases h; nomatch g
  · intro e h
    cases h
    refine ⟨fun h => ?_, fun _ => ⟨by decide, rfl, rfl⟩⟩
    nomatch h

/-- Room and no room, on an empty and on a full egress buffer, and behind a terminal segment. -/
theorem test_meets_room : inMessage.Room 1 4 ∧ ¬ (inMessage.modTx 1 fullTx).Room 1 4 ∧
    ¬ (inMessage.modTx 1 fun t => { t with egress := [{ payload := [], som := true, eom := true, abort := false }] }).Room 1 1 ∧
    (inMessage.modTx 1 fun t => { t with pendingBytes := List.replicate 59 0 }).Room 1 4 := by
  unfold State.Room TxChannel.Room; decide

/-- An indefinite container opens a VERBATIM scope by the default PASS; a full window, a window of size 0, and depth 64. -/
theorem test_meets_scope :
    (using1 [0x80, 1, 0xFF, 0xFF] false id).Handled 1 (Header.ofBytes 0x80 1 0xFF 0xFF)
      (.scope .verbatim (some (Header.ofBytes 0x80 1 0xFF 0xFF))) true none ∧
    pushCheck (inMessage.ch 1) .ready = none ∧
    pushCheck { inMessage.ch 1 with resident := List.replicate 8 discardScope } .suspect = none ∧
    pushCheck { inMessage.ch 1 with resident := List.replicate 8 discardScope } .lost = some .noBacking ∧
    pushCheck { inMessage.ch 1 with config := { ChannelConfig.powerOn with windowSize := 0 } } .ready = some .noBacking ∧
    pushCheck { inMessage.ch 1 with spilled := 16 } .ready = some .depth := by
  refine ⟨⟨?_, ?_⟩, by decide +kernel⟩
  · rintro v rfl _; decide +kernel
  · intro e h; nomatch h

/-- A DESCEND of a definite container by the set's default. -/
theorem test_meets_degrade :
    ((using1 [0x81, 0x20, 0, 0x16] false id).modPolicy fun p =>
      { p with bankA := { p.bankA with defaults := Vector.replicate 8 .descend } }).Handled 1 (Header.ofBytes 0x81 0x20 0 0x16)
      (.scope .filter (some (Header.ofBytes 0x81 0x20 0xFF 0xFF))) true none := by
  refine ⟨?_, ?_⟩
  · rintro v rfl _; decide +kernel
  · intro e h; nomatch h

/-- A push that waits for its spill, which was refused or not. -/
def waitingPush (r : Bool) : PendingPush :=
  { entry := filterScope (.definite 22), emit := some (Header.ofBytes 0x81 0x20 0xFF 0xFF), refused := r }

def pendingOn (r : Bool) : State := using1 [] false fun ch => { ch with pendingPush := some (waitingPush r) }

theorem test_meets_pending_push : (pendingOn false).servedFor .carryOutPush = some 1 ∧
    (pendingOn true).servedFor .degradePush = some 1 ∧ (pendingOn true).Room 1 4 ∧
    ¬ ((pendingOn true).modTx 1 fullTx).Room 1 4 := by unfold State.Room TxChannel.Room; decide +kernel

/-- A closed indefinite scope of 12 bytes: its definite parent has 11 bytes left, or 12. -/
theorem test_meets_close : ({ inMessage.ch 1 with resident := [filterScope (.definite 11)] } : Channel).ClosesLate
      { discardScope with consumed := 4 } ∧
    ¬ ({ inMessage.ch 1 with resident := [filterScope (.definite 12)] } : Channel).ClosesLate
      { discardScope with consumed := 4 } := by
  refine ⟨⟨_, 11, rfl, rfl, rfl, by decide⟩, ?_⟩
  rintro ⟨p, r, h, g, _, k⟩
  cases h; cases g; revert k; decide

/-- A close that needs a fill, one that needs none, and one that may raise none. -/
theorem test_meets_closes_to (spilled : Nat) :
    ((using1 [] false fun ch => { ch with spilled := spilled, resident := [filterScope (.definite 0)] }).ch 1).resident.dropLast
      = [] ∧
    ((using1 [] false fun ch => { ch with spilled := spilled, resident := [filterScope (.definite 0)] }).ch 1).spilled = spilled ∧
    ((using1 [] false id).modSpill fun p => { p with backing := .suspect }).spill.backing = .suspect ∧
    (using1 [] false id).spill.backing ≠ .ready := ⟨rfl, rfl, rfl, by decide⟩

theorem test_meets_payload : (using1 [7, 8] false fun ch => { ch with parse := .copy 1 1 }).servedFor .payloadRun = some 1 ∧
    ((using1 [7, 8] false fun ch => { ch with parse := .copy 1 1 }).ch 1).parse = .copy 1 1 := by decide +kernel

/-! ### The Spill Port's hypotheses -/

def job (k : JobKind) : Job := { channel := 1, kind := k, count := 1, start := 0 }

/-- A job in flight for channel 1, which stands in this state. -/
def flying (k : JobKind) (st : ChannelState) (b : Backing) : State :=
  (inMessage.modSpill fun p => { p with inFlight := some (.data (job k) (fillPeriod (job k))), backing := b }).modCh 1
    fun ch => { ch with state := st, spilled := 1 }

theorem test_meets_take_job : linked.spill.inFlight = none ∧ linked.spill.backing ≠ .absent ∧
    (linked.modSpill fun p => { p with pendingProbe := true }).spill.pendingProbe = true ∧
    (linked.modSpill fun p => { p with queue := [job .spill, job .fill] }).spill.queue = [job .spill] ++ job .fill :: [] ∧
    (∀ x ∈ [job .spill], x.kind = .spill) := by decide

theorem test_meets_completions (k : JobKind) (st : ChannelState) (b : Backing) :
    (flying k st b).spill.inFlight = some (.data (job k) (fillPeriod (job k))) ∧ ((flying k st b).ch 1).state = st ∧
    (flying k st b).spill.backing = b := ⟨rfl, rfl, rfl⟩

/-- SDI carries the bytes of a fill in flight. -/
theorem test_meets_hears : (fillPeriod (job .fill)).Hears (heardOn (serializeAll 1 0 [filterScope (.definite 3)]))
    (serializeAll 1 0 [filterScope (.definite 3)]) := by
  unfold SelectPeriod.Hears; decide +kernel

theorem test_meets_fill_checks :
    verifyAll 1 1 0 (serializeAll 1 0 [filterScope (.definite 3)]) = some [filterScope (.definite 3)] ∧
    (serializeAll 1 0 [filterScope (.definite 3)]).length = 8 * 1 ∧ verifyAll 1 1 0 (List.replicate 8 0) = none := by
  decide +kernel

theorem test_meets_refusal : (flying .spill .spillWait .lost).spill.backing = .lost ∧
    ((pendingOn false).ch 1).pendingPush ≠ none ∧ (filterScope (.definite 22)).disposition = .filter ∧
    discardScope.mode = .indefinite := by decide

theorem test_meets_probe : (linked.modSpill fun p => { p with inFlight := some (probeTransfer 1) }).spill.inFlight =
      some (probeTransfer 1) ∧ (probePattern 1).length = 8 ∧
    (fillPeriod (job .fill)).Hears (heardOn (List.replicate 8 7)) (List.replicate 8 7) := by
  refine ⟨rfl, rfl, ?_⟩
  unfold SelectPeriod.Hears; decide +kernel

/-- The field tests of an entry whose check byte agrees, each at its boundary, and an entry that passes them all. -/
theorem test_meets_entry_fields :
    ([[0xE1, 0x20, 0, 0, 0, 0, 0], [0x41, 0x20, 0, 0, 0, 0, 0], [0x00, 0x00, 0, 1, 0, 0, 0], [0x01, 0x20, 0xFF, 0xFF, 0, 0, 0],
      [0x21, 0x20, 0, 1, 0, 0, 0], [0x01, 0x20, 0xFF, 0xFE, 0, 0, 0]].map fun bs : List Byte =>
        (ScopeEntry.verify 1 2 (bs ++ [checkByte bs 1 2])).isSome) = [false, false, false, false, false, true] := by
  decide +kernel

theorem test_meets_scope_entries : (filterScope (.definite 65534)).Legal ∧ discardScope.Legal ∧
    (checkByte (List.replicate 7 0) 0 0 ≠ 1) := by
  refine ⟨⟨by decide, by decide, ?_⟩, ⟨by decide, by decide, ?_⟩, by decide +kernel⟩
  · intro r h; cases h; exact ⟨rfl, by decide⟩
  · intro r h; nomatch h

/-! ### The commands' hypotheses -/

theorem test_meets_unknown : (record 0xF00 []).code.toNat < 0xF01 ∧ 0xF0E < (record 0xF0F []).code.toNat ∧
    ({ CommandRecord.empty with isContainer := false } : CommandRecord).isContainer = false ∧
    (holding linked (record 0xF0F [])).mgmt.unit = .executing (.ready (record 0xF0F [])) := by decide +kernel

theorem test_meets_checks : CommandRecord.empty.check [] [] = some .malformedCommand ∧
    (record 0xF02 [arg Leaf.clear [2]]).check [] [Leaf.clear] = some .badArgument ∧
    (record 0xF04 []).check [Leaf.channel] [] = some .badArgument ∧ (record 0xF01 []).check [] [] = none := by
  decide +kernel

theorem test_meets_plain_commands : (holding linked (record 0xF01 [])).Carries 0xF01 [] [] (record 0xF01 []) ∧
    (holding linked (record 0xF02 [arg Leaf.clear [1]])).Carries 0xF02 [] [Leaf.clear] (record 0xF02 [arg Leaf.clear [1]]) ∧
    (holding linked (record 0xF0A [])).Carries 0xF0A [] [] (record 0xF0A []) ∧
    (holding linked (record 0xF0C [])).Carries 0xF0C [] [] (record 0xF0C []) ∧
    (holding linked (record 0xF0D [])).Carries 0xF0D [] [] (record 0xF0D []) ∧
    (holding linked (record 0xF0E [])).Carries 0xF0E [] [] (record 0xF0E []) := by
  unfold State.Carries; decide +kernel

/-- CHANNEL SET for the management channel and a data channel: a data field, a locked one, a disable; and the states a disable
or an enable acts on. -/
theorem test_meets_channel_set : ∀ args ∈ [[arg Leaf.channel [0], arg Leaf.enabled [0]], [arg Leaf.channel [0]],
      [arg Leaf.channel [1], arg Leaf.windowSize [16]], [arg Leaf.channel [15], arg Leaf.stallReload [0, 0]],
      [arg Leaf.channel [1], arg Leaf.enabled [0]]],
    (record 0xF03 args).check [Leaf.channel]
      [Leaf.enabled, Leaf.policySet, Leaf.windowSize, Leaf.maxDepth, Leaf.stallReload] = none := by decide +kernel

theorem test_meets_channel_states : (linked.ch 1).state = .held ∧ (open1.ch 1).state = .await ∧
    (inMessage.ch 1).state.messageOpen = true ∧ (linked.ch 1).config.enabled = true ∧ linked.mgmt.phase = .provisioning ∧
    open1.mgmt.phase = .operating ∧
    ((open1.modCh 1 fun ch => { ch with state := .disabled, config := { ch.config with enabled := false } }).ch 1).state =
      .disabled := by decide

theorem test_meets_channel_reset : (holding inMessage (record 0xF05 [arg Leaf.channel [1]])).Carries 0xF05 [Leaf.channel] []
      (record 0xF05 [arg Leaf.channel [1]]) ∧
    ((holding inMessage (record 0xF05 [arg Leaf.channel [1]])).unwind 1 true .await |>.ch 1).state = .await ∧
    ((flying .spill .spillWait .ready).unwind 1 true .await |>.ch 1).state = .drain ∧
    (record 0xF05 [arg Leaf.channel [0]]).channel = linked.straps.mgmtSel ∧
    (holding linked (record 0xF04 [arg Leaf.channel [1]])).Carries 0xF04 [Leaf.channel] []
      (record 0xF04 [arg Leaf.channel [1]]) := by unfold State.Carries; decide +kernel

/-- Edits that carry TRUNCATE with a limit, TRUNCATE without one, and another action with one. -/
theorem test_meets_policy_edits :
    (∀ args ∈ [[arg Leaf.action [3], arg Leaf.limit [0, 2]], [arg Leaf.action [3]],
        [arg Leaf.action [0], arg Leaf.limit [0, 2]], [arg Leaf.action [1]]],
      (record 0xF06 (arg Leaf.set [7] :: arg Leaf.type [0x0F, 0xFF] :: args)).check [Leaf.set, Leaf.type, Leaf.action]
        [Leaf.remap, Leaf.countIndex, Leaf.limit] = none) ∧
    (record 0xF07 [arg Leaf.set [0], arg Leaf.type [0, 1]]).check [Leaf.set, Leaf.type] [] = none ∧
    (record 0xF09 [arg Leaf.set [0], arg Leaf.action [3]]).check [Leaf.set, Leaf.action] [] = none ∧
    linked.policy.staging = .ready ∧ (linked.policy.bank linked.policy.stagingBank).find 0 1 = none ∧
    ({ linked.policy.bankB with
        entries := [{ set := 0, type := 1, action := .pass, remap := none, countIndex := none }] } : Bank).find 0 1 ≠ none := by
  decide +kernel

/-- POLICY READ by key, by position, and by neither. -/
theorem test_meets_policy_read : ∀ args ∈ [[arg Leaf.set [0], arg Leaf.type [0, 1]], [arg Leaf.position [3, 0xFF]], []],
    (record 0xF08 (arg Leaf.role [1] :: args)).check [Leaf.role] [Leaf.set, Leaf.type, Leaf.position] = none := by
  decide +kernel

/-- A release of a DRAINING bank with one reference and with two, and a copy that completes. -/
theorem test_meets_commit : linked.policy.staging = .ready ∧
    (BankName.b ≠ linked.policy.active ∧ ({ linked.policy with staging := .draining } : PolicyStore).staging = .draining) ∧
    ({ linked.policy.bankB with refs := 1 } : Bank).refs = 1 ∧ 1 < ({ linked.policy.bankB with refs := 2 } : Bank).refs ∧
    (linked.modPolicy fun p => { p with staging := .copying }).policy.staging = .copying := by decide

/-- COUNTERS READ up to index 255, and one past it; a pair read with one pair left and with sixteen. -/
theorem test_meets_counters_read :
    (holding linked (record 0xF0B [arg Leaf.firstIndex [240], arg Leaf.count [16]])).Carries 0xF0B
      [Leaf.firstIndex, Leaf.count] [Leaf.clear] (record 0xF0B [arg Leaf.firstIndex [240], arg Leaf.count [16]]) ∧
    240 + 16 - 1 ≤ 255 ∧ 255 < 241 + 16 - 1 ∧
    (linked.modMgmt fun m => { m with unit := .executing (.countersRead none 255 1 true []) }).mgmt.unit =
      .executing (.countersRead none (255 : Fin 256).val 1 true []) := by unfold State.Carries; decide +kernel

/-- PROVISION CLOSE: 120 entries with the power-on windows; 128 and 144 with larger ones; an untested and an absent memory. -/
theorem test_meets_provisioning : linked.WindowTotal = 120 ∧
    (linked.modCh 1 fun ch => { ch with config := { ch.config with windowSize := 16 } }).WindowTotal = 128 ∧
    128 < ((linked.modCh 1 fun ch => { ch with config := { ch.config with windowSize := 16 } }).modCh 2
      fun ch => { ch with config := { ch.config with windowSize := 16 } }).WindowTotal ∧
    linked.spill.backing = .untested ∧ (SpillPort.powerOn false).backing = .absent ∧ linked.mgmt.phase = .provisioning := by
  decide +kernel

theorem test_meets_lane_can_begin : probing.LaneCanBegin ∧ ¬ linked.LaneCanBegin := by
  unfold State.LaneCanBegin State.NoGrantDue State.Receives; decide +kernel

theorem test_meets_probe_waits :
    (linked.modMgmt fun m => { m with unit := .executing (.provisionClose none) }).mgmt.unit =
      .executing (.provisionClose none) ∧
    (linked.modMgmt fun m => { m with unit := .executing (.backingRestore none) }).mgmt.unit =
      .executing (.backingRestore none) := ⟨rfl, rfl⟩

/-- An open message with a full window of two, one scope spilled before, that waits for its spill in flight. -/
def waitsForSpill : State :=
  ((inMessage.modCh 1 fun ch =>
    { ch with
      config := { ch.config with windowSize := 2 }, state := .spillWait, spilled := 1
      resident := [discardScope, filterScope (.definite 22)], pendingPush := some (waitingPush false) }).modSpill fun p =>
    { p with inFlight := some (.data { channel := 1, kind := .spill, count := 1, start := 1 }
        (fillPeriod { channel := 1, kind := .spill, count := 1, start := 1 })) }).modRx 1 fun r => { r with credit := 2 }

/-- Every invariant holds in a state that is not the reset state, and the step taken from it moves a scope. -/
theorem test_meets_slots : waitsForSpill.SlotsOk ∧ waitsForSpill.EgressOk := by
  unfold State.SlotsOk State.EgressOk; decide +kernel

theorem test_meets_policy_order : waitsForSpill.PolicyOk := by unfold State.PolicyOk Bank.Ordered; decide +kernel

theorem test_meets_references : waitsForSpill.ReferencesOk where
  bound := by decide +kernel
  management := by decide +kernel
  counts n := by cases n <;> decide +kernel
  limit n := by cases n <;> decide +kernel
  staging := by decide +kernel

theorem test_meets_counts : waitsForSpill.CountsOk where
  errors := by decide +kernel
  stats := by decide +kernel
  consumed c e h := by
    have hr : ∀ c, ∀ e ∈ (waitsForSpill.ch c).resident, e.consumed ≤ 16777215 := by decide +kernel
    have hp : ∀ c, ∀ p ∈ (waitsForSpill.ch c).pendingPush, p.entry.consumed ≤ 16777215 := by decide +kernel
    have hc : ∀ c, (waitsForSpill.ch c).parse = .header [] := by decide +kernel
    rcases h with h | ⟨p, h, rfl⟩ | h
    · exact hr c e h
    · exact hp c p h
    · rw [hc c] at h; nomatch h
  timers := by decide +kernel
  downstream := by decide +kernel
  returnPath := by decide +kernel
  notices := by decide +kernel
  mgmtTimer := by decide +kernel
  collected := by decide +kernel
  arguments := by
    refine ⟨by unfold CommandRecord.ArgsOk; decide +kernel, fun r h => ?_, fun t l v h => ?_⟩ <;> nomatch h
  failures := by decide +kernel
  pairs := by decide +kernel

theorem test_meets_stacks : waitsForSpill.StacksOk where
  config := by decide +kernel
  window := by decide +kernel
  depth := by decide +kernel
  spilled := by decide +kernel
  closed := by decide +kernel
  pushes c p h := by
    have hs : ∀ c, (waitsForSpill.ch c).pendingPush ≠ none → (waitsForSpill.ch c).state = .spillWait := by decide +kernel
    exact Or.inl (hs c (by rw [h]; nofun))
  queued := by unfold Channel.Awaits; decide +kernel
  flying := by unfold Channel.Awaits; decide +kernel
  once := by decide +kernel
  provisioning := by decide +kernel
  management := by decide +kernel

theorem test_step_moves_a_scope : after (step { waitsForSpill with pending := [.spillCompletion] })
    (fun s => ((s.ch 1).state, (s.ch 1).resident, (s.ch 1).spilled)) =
    some (.inMessage, [filterScope (.definite 22)], 2) := by decide +kernel

end Sys2Proof.Tests
end

section
/-! PROOFS. The straps through every command: each operation of the model leaves them, so each command but a power-on
reset does (R147, R174). -/

namespace Sys2Proof.Machine

/-! ### The Record Engine's steps -/

section Engine
variable (s undo : State) (c : ChannelNo)

@[simp] theorem State.beginStep_straps : (s.beginStep c).straps = s.straps := by
  simp only [State.beginStep]
  split <;> rfl

@[simp] theorem State.block_straps : (s.block c).straps = s.straps := by simp [State.block]

@[simp] theorem State.endMessage_straps : (s.endMessage c).straps = s.straps := by simp [State.endMessage]

@[simp] theorem State.useUp_straps : (s.useUp c).straps = s.straps := by simp [State.useUp]

@[simp] theorem State.withhold_straps (after : State) : (s.withhold after c).straps = after.straps := by
  simp [State.withhold]

/-- What follows a step keeps the straps the step left. -/
@[simp] theorem State.finishStep_straps (after : State) : (s.finishStep after c).straps = after.straps := by
  simp only [State.finishStep]
  split
  · rfl
  · split
    · rfl
    · split
      · simp
      · split <;> simp

@[simp] theorem State.startMessage_straps (g : Segment) : (s.startMessage c g).straps = s.straps := by
  simp [State.startMessage]

@[simp] theorem State.awaitTake_straps : (s.awaitTake c).straps = s.straps := by
  simp only [State.awaitTake]
  split
  · rfl
  · split <;> simp

@[simp] theorem State.upstreamAbort_straps : (s.upstreamAbort c).straps = s.straps := by simp [State.upstreamAbort]

@[simp] theorem State.takeFlags_straps : (s.takeFlags c).straps = s.straps := by
  simp only [State.takeFlags]
  split
  · rfl
  · repeat' split
    all_goals simp

@[simp] theorem State.accountChild_straps (n : Nat) : (s.accountChild c n).straps = s.straps := by
  simp [State.accountChild]

@[simp] theorem State.recordDegrade_straps (t : RecType) (k : FaultKind) :
    (s.recordDegrade c t k).straps = s.straps := by
  simp only [State.recordDegrade]
  split <;> simp

@[simp] theorem State.degrade_straps (p : PendingPush) (k : FaultKind) : (s.degrade c p k).straps = s.straps := by
  simp [State.degrade]

@[simp] theorem State.push_straps (p : PendingPush) : (s.push c p).straps = s.straps := by simp [State.push]

@[simp] theorem State.raiseSpill_straps (p : PendingPush) : (s.raiseSpill c p).straps = s.straps := by
  simp [State.raiseSpill]

@[simp] theorem State.emitClose_straps (e : ScopeEntry) : (s.emitClose c e).straps = s.straps := by
  simp only [State.emitClose]
  split <;> simp

@[simp] theorem State.countClose_straps (e : ScopeEntry) : (s.countClose c e).straps = s.straps := by
  simp only [State.countClose]
  split <;> simp

@[simp] theorem State.finishClose_straps (e : ScopeEntry) : (s.finishClose c e).straps = s.straps := by
  simp only [State.finishClose]
  split <;> simp

@[simp] theorem State.raiseFill_straps (e : ScopeEntry) : (s.raiseFill c e).straps = s.straps := by
  simp only [State.raiseFill]
  split <;> simp

@[simp] theorem State.setRest_straps (u : InUse) (rest : List Byte) : (s.setRest c u rest).straps = s.straps := by
  simp [State.setRest]

@[simp] theorem State.setParse_straps (p : ParsePos) : (s.setParse c p).straps = s.straps := by simp [State.setParse]

/-! A header is handled over two states: the one the step is taken from, and the one it leaves where it is not taken.
Both have the same straps. -/

@[simp] theorem State.openScope_straps (p : PendingPush) (i : Option (Fin 256)) (n : Nat) (h : undo.straps = s.straps) :
    (undo.openScope s c p i n).straps = s.straps := by
  simp only [State.openScope]
  split
  · split
    · simp
    · split <;> simp [h]
  · split
    · simp
    · split <;> simp [h]

@[simp] theorem State.closeInnermost_straps (h : undo.straps = s.straps) :
    (undo.closeInnermost s c).straps = s.straps := by
  simp only [State.closeInnermost]
  split
  · rfl
  · split
    · simp
    · split <;> simp [h]

@[simp] theorem State.handle_straps (x : Handling) (hd : Header) (looked : Bool) (i : Option (Fin 256))
    (h : undo.straps = s.straps) : (undo.handle s c hd x looked i).straps = s.straps := by
  cases x with
  | bulk emit copy skip =>
    simp only [State.handle]
    split <;> simp [h]
  | scope d emit => simp [State.handle, h]

@[simp] theorem State.dispose_straps (hd : Header) (h : undo.straps = s.straps) :
    (undo.dispose s c hd).straps = s.straps := by
  simp only [State.dispose, State.judge]
  split
  · simp [h]
  · split <;> simp [h]

@[simp] theorem State.takeEnd_straps (h : undo.straps = s.straps) : (undo.takeEnd s c).straps = s.straps := by
  simp only [State.takeEnd]
  split
  · simp
  · split <;> simp [h]

theorem State.deductParent_straps (hd : Header) {t : State} (h : s.deductParent c hd = some t) :
    t.straps = s.straps := by
  simp only [State.deductParent] at h
  split at h
  · cases h; rfl
  · split at h
    · cases h
    · cases h; simp

@[simp] theorem State.takeHeader_straps (hd : Header) (h : undo.straps = s.straps) :
    (undo.takeHeader s c hd).straps = s.straps := by
  simp only [State.takeHeader]
  split
  · simp
  · split
    · simp [h]
    · split
      · simp
      · next t ht =>
        have kept := s.deductParent_straps c hd ht
        rw [State.dispose_straps _ _ _ _ (h.trans kept.symm), kept]

@[simp] theorem State.headerStep_straps : (s.headerStep c).straps = s.straps := by
  simp only [State.headerStep]
  split
  · split
    · simp
    · split <;> simp
  all_goals rfl

@[simp] theorem State.payloadStep_straps : (s.payloadStep c).straps = s.straps := by
  simp only [State.payloadStep]
  split
  · rfl
  · split
    · split <;> simp
    · simp
    all_goals rfl

@[simp] theorem State.closeStep_straps : (s.closeStep c).straps = s.straps := by simp [State.closeStep]

@[simp] theorem State.resumeClose_straps : (s.resumeClose c).straps = s.straps := by
  simp only [State.resumeClose]
  split
  · split <;> simp
  all_goals rfl

@[simp] theorem State.pushStep_straps : (s.pushStep c).straps = s.straps := by
  simp only [State.pushStep]
  split
  · rfl
  · split <;> simp

@[simp] theorem State.degradeStep_straps : (s.degradeStep c).straps = s.straps := by
  simp only [State.degradeStep]
  split
  · rfl
  · split <;> simp

/-- An engine step keeps the straps when what it does to the channel served keeps them. -/
theorem State.engineDo_straps (k : EngineStep) (f : State → ChannelNo → State)
    (h : ∀ t d, (f t d).straps = t.straps) : (s.engineDo k f).straps = s.straps := by
  simp only [State.engineDo]
  split <;> simp [h]

end Engine

/-! ### The operations several commands share -/

section Shared
variable (s : State)

@[simp] theorem State.answerReset_straps (c : ChannelNo) : (s.answerReset c).straps = s.straps := by
  simp only [State.answerReset]
  split
  · split <;> simp
  all_goals rfl

@[simp] theorem State.leaveDrain_straps (c : ChannelNo) : (s.leaveDrain c).straps = s.straps := by
  simp [State.leaveDrain]

@[simp] theorem State.refuseJob_straps (j : Job) : (s.refuseJob j).straps = s.straps := by
  simp only [State.refuseJob]
  split
  · split
    · rfl
    · split <;> simp
  · simp
  all_goals rfl

/-- A fold of operations that each keep the straps keeps them. -/
theorem State.foldl_straps {α : Type} (f : State → α → State) (h : ∀ t a, (f t a).straps = t.straps) (l : List α) :
    (l.foldl f s).straps = s.straps := by
  induction l generalizing s with
  | nil => rfl
  | cons a l ih => rw [List.foldl_cons, ih, h]

@[simp] theorem State.enterLost_straps : s.enterLost.straps = s.straps := by
  simp only [State.enterLost]
  rw [State.foldl_straps _ _ State.refuseJob_straps]
  simp

@[simp] theorem State.openPart_straps (tag : Option (List Byte)) : (s.openPart tag).straps = s.straps := by
  simp [State.openPart]

@[simp] theorem State.structuralFault_straps (k : FaultKind) (r : Reason) (n : Nat) :
    (s.structuralFault k r n).straps = s.straps := by simp [State.structuralFault]

@[simp] theorem State.closeMgmtMessage_straps : s.closeMgmtMessage.straps = s.straps := by
  simp [State.closeMgmtMessage]

@[simp] theorem State.finishMgmtSegment_straps : s.finishMgmtSegment.straps = s.straps := by
  simp only [State.finishMgmtSegment]
  repeat' split
  all_goals simp

end Shared

/-! ### The commands

`State.carriedOut` names the state a command leaves; each lemma says that the command leaves the straps in it. -/

section Commands
variable (s : State)

/-! The engine's steps -/

@[simp] theorem execAwaitTakeSegment_straps : (s.carriedOut (execAwaitTakeSegment s)).straps = s.straps :=
  s.engineDo_straps _ _ State.awaitTake_straps

@[simp] theorem execTakeSegmentFlags_straps : (s.carriedOut (execTakeSegmentFlags s)).straps = s.straps :=
  s.engineDo_straps _ _ State.takeFlags_straps

@[simp] theorem execCompleteHeader_straps : (s.carriedOut (execCompleteHeader s)).straps = s.straps :=
  s.engineDo_straps _ _ State.headerStep_straps

@[simp] theorem execTakePayloadRun_straps : (s.carriedOut (execTakePayloadRun s)).straps = s.straps :=
  s.engineDo_straps _ _ State.payloadStep_straps

@[simp] theorem execBeginClose_straps : (s.carriedOut (execBeginClose s)).straps = s.straps :=
  s.engineDo_straps _ _ State.closeStep_straps

@[simp] theorem execCompleteClose_straps : (s.carriedOut (execCompleteClose s)).straps = s.straps :=
  s.engineDo_straps _ _ State.resumeClose_straps

@[simp] theorem execCarryOutPendingPush_straps : (s.carriedOut (execCarryOutPendingPush s)).straps = s.straps :=
  s.engineDo_straps _ _ State.pushStep_straps

@[simp] theorem execDegradePendingPush_straps : (s.carriedOut (execDegradePendingPush s)).straps = s.straps :=
  s.engineDo_straps _ _ State.degradeStep_straps

/-! Link -/

theorem State.faultLink_straps (a : Bool) (who : Channel → Bool) (t : State) (c : ChannelNo) :
    (State.faultLink a who t c).straps = t.straps := by
  simp only [State.faultLink]
  split <;> simp

@[simp] theorem State.faultLinks_straps (a : Bool) (who : Channel → Bool) :
    (s.faultLinks a who).straps = s.straps :=
  s.foldl_straps _ (State.faultLink_straps a who) _

@[simp] theorem execUpstreamLinkDown_straps : (s.carriedOut (execUpstreamLinkDown s)).straps = s.straps := by
  simp only [execUpstreamLinkDown]
  split <;> simp [State.upstreamDown]

@[simp] theorem execUpstreamLinkUp_straps : (s.carriedOut (execUpstreamLinkUp s)).straps = s.straps := by
  simp only [execUpstreamLinkUp]
  split <;> simp [State.upstreamUp]

@[simp] theorem execDownstreamLinkDown_straps : (s.carriedOut (execDownstreamLinkDown s)).straps = s.straps := by
  simp only [execDownstreamLinkDown]
  split <;> simp [State.downstreamDown]

@[simp] theorem execDownstreamLinkUp_straps : (s.carriedOut (execDownstreamLinkUp s)).straps = s.straps := by
  simp only [execDownstreamLinkUp]
  split <;> simp

@[simp] theorem State.takeSegment_straps (g : ReceivedSegment) : (s.takeSegment g).straps = s.straps := by
  simp only [State.takeSegment]
  split
  · simp
  · split <;> simp

@[simp] theorem execSegmentReceived_straps (u : List Byte) :
    (s.carriedOut (execSegmentReceived u s)).straps = s.straps := by
  simp only [execSegmentReceived]
  split
  · rfl
  · split <;> simp

@[simp] theorem State.takeCredit_straps (p : Port) (c : ChannelNo) (n : Nat) :
    (s.takeCredit p c n).straps = s.straps := by cases p <;> simp [State.takeCredit]

@[simp] theorem execCreditWordReceived_straps (p : Port) (u : List Byte) :
    (s.carriedOut (execCreditWordReceived p u s)).straps = s.straps := by
  simp only [execCreditWordReceived]
  split
  · rfl
  · split <;> simp

@[simp] theorem execCreditWordGrant_straps : (s.carriedOut (execCreditWordGrant s)).straps = s.straps := by
  simp only [execCreditWordGrant]
  split
  · split <;> simp [State.grant]
  · rfl

@[simp] theorem execDownstreamSegmentSend_straps :
    (s.carriedOut (execDownstreamSegmentSend s)).straps = s.straps := by
  simp only [execDownstreamSegmentSend, State.sendHead]
  split
  · rfl
  · split <;> simp

@[simp] theorem execDownstreamSegmentSent_straps :
    (s.carriedOut (execDownstreamSegmentSent s)).straps = s.straps := by
  simp only [execDownstreamSegmentSent]
  split <;> simp [State.sentHead]

@[simp] theorem State.returnBegin_straps : s.returnBegin.straps = s.straps := by rw [s.returnBegin_mgmt_only]

@[simp] theorem execReturnMessageBegin_straps : (s.carriedOut (execReturnMessageBegin s)).straps = s.straps :=
  s.returnBegin_straps

@[simp] theorem execDownstreamSegmentDiscard_straps (u : List Byte) :
    (s.carriedOut (execDownstreamSegmentDiscard u s)).straps = s.straps := rfl

@[simp] theorem execReturnSegmentSend_straps : (s.carriedOut (execReturnSegmentSend s)).straps = s.straps := by
  simp only [execReturnSegmentSend, State.sendReturn]
  split
  · rfl
  · split <;> simp

@[simp] theorem execResponseSent_straps : (s.carriedOut (execResponseSent s)).straps = s.straps := by
  simp only [execResponseSent, State.responseSent]
  split
  · split <;> simp
  all_goals rfl

@[simp] theorem execNoticeSent_straps : (s.carriedOut (execNoticeSent s)).straps = s.straps := by
  simp only [execNoticeSent]
  split <;> simp

/-! Timers and the Spill Port -/

@[simp] theorem execTimebaseTick_straps : (s.carriedOut (execTimebaseTick s)).straps = s.straps := by
  simp only [execTimebaseTick, State.tick]
  split <;> simp

@[simp] theorem execStall_straps (c : ChannelNo) : (s.carriedOut (execStall c s)).straps = s.straps := by
  simp only [execStall]
  split <;> simp

@[simp] theorem execMgmtStallExpiry_straps : (s.carriedOut (execMgmtStallExpiry s)).straps = s.straps := by
  simp only [execMgmtStallExpiry]
  split <;> simp

@[simp] theorem execTakeJob_straps : (s.carriedOut (execTakeJob s)).straps = s.straps := by
  simp only [execTakeJob, State.takeProbe, State.takeQueued]
  repeat' split
  all_goals simp

@[simp] theorem State.freeWires_straps : s.freeWires.straps = s.straps := by simp [State.freeWires]

@[simp] theorem execSpillCompletion_straps : (s.carriedOut (execSpillCompletion s)).straps = s.straps := by
  simp only [execSpillCompletion, State.spillDone]
  split
  · split <;> simp
  all_goals rfl

@[simp] theorem State.goodFill_straps : s.goodFill.straps = s.straps := by
  simp only [State.goodFill]
  split <;> simp

@[simp] theorem State.badFill_straps : s.badFill.straps = s.straps := by
  simp only [State.badFill]
  split <;> simp

@[simp] theorem State.fillDone_straps (j : Job) (read : List Byte) : (s.fillDone j read).straps = s.straps := by
  simp only [State.fillDone]
  split
  · split <;> simp
  · simp
  all_goals rfl

@[simp] theorem execFillCompletion_straps (sdi : List Bool) :
    (s.carriedOut (execFillCompletion sdi s)).straps = s.straps := by
  simp only [execFillCompletion]
  split
  · split <;> simp
  all_goals rfl

@[simp] theorem State.answerProbe_straps : s.answerProbe.straps = s.straps := by
  simp only [State.answerProbe]
  split <;> simp

@[simp] theorem State.probePassed_straps : s.probePassed.straps = s.straps := by
  simp only [State.probePassed]
  split <;> simp

@[simp] theorem State.probeFailed_straps : s.probeFailed.straps = s.straps := by
  simp only [State.probeFailed]
  split <;> simp

@[simp] theorem execProbeCompletion_straps (sdi : List Bool) :
    (s.carriedOut (execProbeCompletion sdi s)).straps = s.straps := by
  simp only [execProbeCompletion, State.probeDone]
  split
  · split
    · split <;> simp
    · rfl
  all_goals rfl

/-! The management stream -/

@[simp] theorem State.setMgmtRest_straps (u : InUse) (rest : List Byte) :
    (s.setMgmtRest u rest).straps = s.straps := by simp [State.setMgmtRest]

@[simp] theorem execMgmtParseBytes_straps : (s.carriedOut (execMgmtParseBytes s)).straps = s.straps := by
  simp only [execMgmtParseBytes, State.parseMgmt]
  split
  · split <;> simp
  all_goals rfl

@[simp] theorem State.takeIdle_straps (g : Segment) (gs : List Segment) : (s.takeIdle g gs).straps = s.straps := by
  simp only [State.takeIdle]
  split <;> simp [State.openMgmtMessage]

@[simp] theorem State.takeCollecting_straps (g : Segment) (gs : List Segment) :
    (s.takeCollecting g gs).straps = s.straps := by
  simp only [State.takeCollecting]
  repeat' split
  all_goals simp

@[simp] theorem execMgmtTakeSegment_straps : (s.carriedOut (execMgmtTakeSegment s)).straps = s.straps := by
  simp only [execMgmtTakeSegment]
  repeat' split
  all_goals simp

/-! Management commands -/

/-- A management command keeps the straps when its own rule does: a refusal only forms a response. -/
theorem State.runCommand_straps (code : RecType) (required optional : List RecType)
    (body : State → CommandRecord → State) (h : ∀ t r, (body t r).straps = t.straps) :
    (s.carriedOut (s.runCommand code required optional body)).straps = s.straps := by
  simp only [State.runCommand]
  split
  · rfl
  · split <;> simp [h]

@[simp] theorem execUnknownCommand_straps : (s.carriedOut (execUnknownCommand s)).straps = s.straps := by
  simp only [execUnknownCommand]
  split
  · rfl
  · split <;> simp

@[simp] theorem execPairRead_straps : (s.carriedOut (execPairRead s)).straps = s.straps := by
  simp only [execPairRead, State.readPair]
  repeat' split
  all_goals simp

@[simp] theorem execCopyCompletion_straps : (s.carriedOut (execCopyCompletion s)).straps = s.straps := by
  simp only [execCopyCompletion]
  split <;> simp

@[simp] theorem execIdentify_straps : (s.carriedOut (execIdentify s)).straps = s.straps :=
  s.runCommand_straps _ _ _ _ fun t r => t.answer_straps r .ok _

@[simp] theorem execChannelGet_straps : (s.carriedOut (execChannelGet s)).straps = s.straps :=
  s.runCommand_straps _ _ _ _ fun t r => t.answer_straps r .ok _

variable (r : CommandRecord)

theorem State.status_straps : (s.status r).straps = s.straps := by
  simp only [State.status]
  split <;> simp

@[simp] theorem execStatus_straps : (s.carriedOut (execStatus s)).straps = s.straps :=
  s.runCommand_straps _ _ _ _ State.status_straps

@[simp] theorem State.emptyIngress_straps (c : ChannelNo) : (s.emptyIngress c).straps = s.straps := by
  simp [State.emptyIngress]

@[simp] theorem State.disable_straps (c : ChannelNo) : (s.disable c).straps = s.straps := by
  simp only [State.disable]
  split <;> simp

@[simp] theorem State.enable_straps (c : ChannelNo) : (s.enable c).straps = s.straps := by
  simp only [State.enable]
  repeat' split
  all_goals simp

@[simp] theorem State.setChannel_straps (c : ChannelNo) : (s.setChannel c r).straps = s.straps := by
  simp only [State.setChannel, State.applyEnabled]
  repeat' split
  all_goals simp

theorem State.channelSet_straps : (s.channelSet r).straps = s.straps := by
  simp only [State.channelSet]
  repeat' split
  all_goals simp

@[simp] theorem execChannelSet_straps : (s.carriedOut (execChannelSet s)).straps = s.straps :=
  s.runCommand_straps _ _ _ _ State.channelSet_straps

@[simp] theorem State.resetChannel_straps (c : ChannelNo) : (s.resetChannel c).straps = s.straps := by
  simp only [State.resetChannel]
  split <;> simp

theorem State.channelReset_straps : (s.channelReset r).straps = s.straps := by
  simp only [State.channelReset]
  repeat' split
  all_goals simp

@[simp] theorem execChannelReset_straps : (s.carriedOut (execChannelReset s)).straps = s.straps :=
  s.runCommand_straps _ _ _ _ State.channelReset_straps

theorem State.policyInsert_straps : (s.policyInsert r).straps = s.straps := by
  simp only [State.policyInsert]
  repeat' split
  all_goals simp

@[simp] theorem execPolicyInsert_straps : (s.carriedOut (execPolicyInsert s)).straps = s.straps :=
  s.runCommand_straps _ _ _ _ State.policyInsert_straps

theorem State.policyDelete_straps : (s.policyDelete r).straps = s.straps := by
  simp only [State.policyDelete]
  repeat' split
  all_goals simp

@[simp] theorem execPolicyDelete_straps : (s.carriedOut (execPolicyDelete s)).straps = s.straps :=
  s.runCommand_straps _ _ _ _ State.policyDelete_straps

theorem State.policyRead_straps : (s.policyRead r).straps = s.straps := by
  simp only [State.policyRead]
  repeat' split
  all_goals simp

@[simp] theorem execPolicyRead_straps : (s.carriedOut (execPolicyRead s)).straps = s.straps :=
  s.runCommand_straps _ _ _ _ State.policyRead_straps

theorem State.defaultSet_straps : (s.defaultSet r).straps = s.straps := by
  simp only [State.defaultSet]
  repeat' split
  all_goals simp

@[simp] theorem execDefaultSet_straps : (s.carriedOut (execDefaultSet s)).straps = s.straps :=
  s.runCommand_straps _ _ _ _ State.defaultSet_straps

theorem State.commitRoles_straps : (s.commitRoles r).straps = s.straps := by
  simp only [State.commitRoles]
  split <;> simp

@[simp] theorem execCommit_straps : (s.carriedOut (execCommit s)).straps = s.straps :=
  s.runCommand_straps _ _ _ _ State.commitRoles_straps

theorem State.countersRead_straps : (s.countersRead r).straps = s.straps := by
  simp only [State.countersRead]
  split <;> simp

@[simp] theorem execCountersRead_straps : (s.carriedOut (execCountersRead s)).straps = s.straps :=
  s.runCommand_straps _ _ _ _ State.countersRead_straps

@[simp] theorem State.requestProbe_straps (e : Executing) : (s.requestProbe e).straps = s.straps := by
  simp [State.requestProbe]

theorem State.backingRestore_straps : (s.backingRestore r).straps = s.straps := by
  simp only [State.backingRestore]
  split <;> simp

@[simp] theorem execBackingRestore_straps : (s.carriedOut (execBackingRestore s)).straps = s.straps :=
  s.runCommand_straps _ _ _ _ State.backingRestore_straps

@[simp] theorem State.allocateWindows_straps : s.allocateWindows.straps = s.straps := by
  simp [State.allocateWindows]

theorem State.provisionClose_straps : (s.provisionClose r).straps = s.straps := by
  simp only [State.provisionClose]
  repeat' split
  all_goals simp

@[simp] theorem execProvisionClose_straps : (s.carriedOut (execProvisionClose s)).straps = s.straps :=
  s.runCommand_straps _ _ _ _ State.provisionClose_straps

/-! RESTART -/

theorem State.takeDuring_straps (t : State) (e : RestartEvent) : (t.takeDuring e).straps = t.straps := by
  cases e <;> simp [State.takeDuring]

@[simp] theorem State.restartBlocks_straps : s.restartBlocks.straps = s.straps := by simp [State.restartBlocks]

theorem State.restart_straps : (s.restart r).straps = s.straps := by
  simp only [State.restart, State.restartBlocks_straps]
  rw [State.foldl_straps _ _ State.takeDuring_straps]
  simp [State.restartUnit]

@[simp] theorem execRestart_straps : (s.carriedOut (execRestart s)).straps = s.straps :=
  s.runCommand_straps _ _ _ _ State.restart_straps

end Commands

/-- No command but a power-on reset changes the straps (R147, R174). -/
theorem exec_straps (i : Instr) (s : State) (h : ∀ straps, i ≠ .powerOnReset straps) :
    (s.carriedOut (exec i s)).straps = s.straps := by
  cases i
  case powerOnReset straps => exact absurd rfl (h straps)
  all_goals simp [exec]

end Sys2Proof.Machine
end

section
/-! PROOFS. What the management commands run on: the checks of R145, the leaves as bytes, and the edits of the staging
bank, each outcome by its own lemma. -/

namespace Sys2Proof.Machine

/-! ### Checks and arguments of a command record (R145) -/

/-- A carried record has passed the checks. -/
theorem State.Carries.check {s : State} {code : RecType} {required optional : List RecType} {r : CommandRecord}
    (h : s.Carries code required optional r) : r.check required optional = none := by
  obtain ⟨-, -, -, check⟩ := h
  exact check

/-- A command whose record fails a check is answered with the check's completion code and no leaves. -/
theorem State.runCommand_refused (s : State) (code : RecType) (required optional : List RecType)
    (body : State → CommandRecord → State) (r : CommandRecord) (e : Completion)
    (hunit : s.mgmt.unit = .executing (.ready r)) (hform : r.isContainer = true) (hcode : r.code = code)
    (hcheck : r.check required optional = some e) :
    s.runCommand code required optional body = .next (s.Answers r e []) := by
  simp [State.runCommand, State.readyFor, State.readyRecord, hunit, hform, hcode, hcheck, State.answer_eq]

/-- A command that runs through `State.runCommand` makes the checks of R145 first. -/
theorem checksFirst_of_runCommand {command : Instr} {code : RecType} {required optional : List RecType}
    (body : State → CommandRecord → State)
    (h : ∀ s, exec command s = s.runCommand code required optional body) :
    ChecksFirst command code required optional := by
  intro s r e hunit hform hcode hcheck
  rw [h s]
  exact s.runCommand_refused code required optional body r e hunit hform hcode hcheck

/-- A recorded value belongs to one of the record's arguments. -/
theorem CommandRecord.exists_arg_of_value {r : CommandRecord} {t : RecType} {v : Nat} (h : r.value t = some v) :
    ∃ a ∈ r.args, a.type = t ∧ bytesNum a.value = v := by
  simp only [CommandRecord.value, CommandRecord.arg, Option.map_map, Option.map_eq_some_iff] at h
  obtain ⟨a, hfind, hv⟩ := h
  exact ⟨a, List.mem_of_find?_eq_some hfind, by simpa using List.find?_some hfind, hv⟩

/-- A record that passes the checks holds every required argument, with a value in its type's range. -/
theorem CommandRecord.value_of_check {r : CommandRecord} {required optional : List RecType} {t : RecType}
    (h : r.check required optional = none) (ht : t ∈ required) :
    ∃ v, r.value t = some v ∧ argInRange t v = true := by
  simp only [CommandRecord.check] at h
  split at h
  · cases h
  split at h
  · cases h
  next hargs =>
  simp only [CommandRecord.badArguments, Bool.or_eq_true, List.any_eq_true, not_or, not_exists, not_and,
    Bool.not_eq_true', Bool.not_eq_false] at hargs
  obtain ⟨⟨-, hrange⟩, hrequired⟩ := hargs
  obtain ⟨v, hv⟩ : ∃ v, r.value t = some v := by
    have given := hrequired t ht
    simp only [CommandRecord.has, Option.isSome_iff_exists] at given
    obtain ⟨bytes, hbytes⟩ := given
    exact ⟨bytesNum bytes, by simp [CommandRecord.value, hbytes]⟩
  obtain ⟨a, ha, rfl, rfl⟩ := r.exists_arg_of_value hv
  exact ⟨_, hv, (hrange a ha).2⟩

/-- The ACTION argument of a record that requires it is one of the four codes (Figure 9-1). -/
theorem CommandRecord.action_of_check {r : CommandRecord} {required optional : List RecType}
    (h : r.check required optional = none) (ht : Leaf.action ∈ required) :
    ∃ k ≤ 3, r.value Leaf.action = some k := by
  obtain ⟨k, hk, hrange⟩ := r.value_of_check h ht
  exact ⟨k, of_decide_eq_true hrange, hk⟩

/-- A yes-or-no argument counts as yes exactly when it is given as 1. -/
theorem CommandRecord.flag_iff (r : CommandRecord) (t : RecType) : r.flag t = true ↔ r.value t = some 1 := by
  cases h : r.value t <;> simp [CommandRecord.flag, h]

/-! ### Leaves as bytes (Figure 9-1) -/

theorem numBytes_one (v : Nat) : numBytes 1 v = [BitVec.ofNat 8 v] := by simp [numBytes]

theorem numBytes_two (v : Nat) : numBytes 2 v = [BitVec.ofNat 8 (v / 256), BitVec.ofNat 8 v] := by simp [numBytes]

/-- The two bytes of a word are the two bytes of its number. -/
theorem wordBytes_eq_numBytes (w : BitVec 16) : wordBytes w = numBytes 2 w.toNat := by
  simp only [wordBytes, numBytes_two, List.cons.injEq, and_true]
  constructor <;> apply BitVec.eq_of_toNat_eq <;> simp [BitVec.extractLsb'_toNat, Nat.shiftRight_eq_div_pow]

/-- Two bytes hold a number modulo 2^16. -/
theorem numBytes_two_mod (v : Nat) : numBytes 2 (v % 65536) = numBytes 2 v := by
  simp only [numBytes_two, List.cons.injEq, and_true]
  constructor <;> apply BitVec.eq_of_toNat_eq <;> simp only [BitVec.toNat_ofNat] <;> omega

/-- A leaf is its type's number, its payload's byte count, and its payload. -/
theorem leafBytes_eq (t : RecType) (payload : List Byte) :
    leafBytes t payload = numBytes 2 t.toNat ++ numBytes 2 payload.length ++ payload := by
  have type : (Header.make .leaf t (BitVec.ofNat 16 payload.length)).typeWord.toNat = t.toNat :=
    (BitVec.toNat_append (BitVec.ofBool false ++ 0#3) t).trans (by simp)
  simp only [leafBytes, Header.toBytes, wordBytes_eq_numBytes, type]
  simp [Header.make, numBytes_two_mod]

/-- A leaf of a one-byte number. -/
theorem numLeaf_one (t : RecType) (v : Nat) : numLeaf t 1 v = numBytes 2 t.toNat ++ [0, 1, BitVec.ofNat 8 v] := by
  simp [numLeaf, leafBytes_eq, numBytes_one, numBytes_two]

/-- A leaf of a two-byte number. -/
theorem numLeaf_two (t : RecType) (v : Nat) : numLeaf t 2 v = numBytes 2 t.toNat ++ [0, 2] ++ numBytes 2 v := by
  simp [numLeaf, leafBytes_eq, numBytes_two]

/-- The leaves of IDENTIFY (R147). -/
theorem State.identifyLeaves_eq (s : State) : s.identifyLeaves =
    [0x00, 0x30, 0x00, 0x02, 0x3E, 0x51, 0x00, 0x31, 0x00, 0x02, 0x04, 0x16, 0x00, 0x32, 0x00, 0x01, 0x01] ++
      [0x00, 0x33, 0x00, 0x03, BitVec.ofNat 8 s.straps.mgmtSel.val, (if s.straps.spillFitted then 1 else 0),
        BitVec.ofNat 8 s.straps.spillRate.val] ++
      [0x00, 0x34, 0x00, 0x01, (if s.mgmt.phase = .operating then 1 else 0)] := by
  have phase : (BitVec.ofNat 8 s.mgmt.phase.code : Byte) = if s.mgmt.phase = .operating then 1 else 0 := by
    cases s.mgmt.phase <;> rfl
  simp [State.identifyLeaves, numLeaf_one, numLeaf_two, leafBytes_eq, numBytes_one, numBytes_two, flagByte, phase,
    Leaf.vendor, Leaf.part, Leaf.revision, Leaf.straps, Leaf.phase]

/-- The LINK_ERRORS leaf. -/
theorem LinkErrors.leaf_eq (e : LinkErrors) :
    e.leaf = [0, 0x3B, 0, 6] ++ numBytes 2 e.crc ++ numBytes 2 e.badHeader ++ numBytes 2 e.overrun := by
  simp [LinkErrors.leaf, leafBytes_eq, numBytes_two, Leaf.linkErrors]

/-- The configuration leaves of CHANNEL GET. -/
theorem ChannelConfig.leaves_eq (f : ChannelConfig) : f.leaves =
    [0, 0x11, 0, 1, flagByte f.enabled, 0, 0x12, 0, 1, BitVec.ofNat 8 f.policySet.val,
      0, 0x13, 0, 1, BitVec.ofNat 8 f.windowSize, 0, 0x14, 0, 1, BitVec.ofNat 8 f.maxDepth] ++
      [0, 0x15, 0, 2] ++ numBytes 2 f.stallReload := by
  simp [ChannelConfig.leaves, leafBytes_eq, numLeaf_one, numLeaf_two, numBytes_two, Leaf.enabled, Leaf.policySet,
    Leaf.windowSize, Leaf.maxDepth, Leaf.stallReload]

/-- The STATE leaf. -/
theorem Channel.stateLeaf_eq (ch : Channel) : ch.stateLeaf = ch.StateBytes := by
  simp [Channel.stateLeaf, Channel.StateBytes, leafBytes_eq, numBytes_one, numBytes_two, Leaf.state]

/-- The BOUND leaf: hex FFFF without a binding. -/
theorem Channel.boundLeaf_eq (ch : Channel) : ch.boundLeaf = [0, 0x41, 0, 2] ++ (match ch.bound with
    | none => [0xFF, 0xFF]
    | some b => [BitVec.ofNat 8 b.bank.code, BitVec.ofNat 8 b.set.val]) := by
  simp only [Channel.boundLeaf, leafBytes_eq]
  cases ch.bound <;> simp [numBytes_one, numBytes_two, Leaf.bound]

/-- The DEPTH leaf. -/
theorem Channel.depthLeaf_eq (ch : Channel) : ch.depthLeaf =
    [0, 0x42, 0, 3, BitVec.ofNat 8 (ch.resident.length + ch.spilled), BitVec.ofNat 8 ch.resident.length,
      BitVec.ofNat 8 ch.spilled] := by
  simp [Channel.depthLeaf, Channel.depth, leafBytes_eq, numBytes_one, numBytes_two, Leaf.depth]

/-- The FLAGS leaf. -/
theorem Channel.flagsLeaf_eq (ch : Channel) (unsync : Bool) : ch.flagsLeaf unsync =
    [0, 0x43, 0, 5, flagByte ch.spillInvalid, flagByte ch.outputStarted, flagByte ch.degradedThisMessage,
      flagByte ch.egressBlocked, flagByte unsync] := by
  simp [Channel.flagsLeaf, leafBytes_eq, numBytes_two, Leaf.flags]

/-- The PARSE leaf: the code of the position, then its two counts. -/
theorem ParsePos.leaf_eq (p : ParsePos) : p.leaf = [0, 0x44, 0, 5] ++ (match p with
    | .header got => 0 :: numBytes 2 got.length ++ numBytes 2 0
    | .copy n m => 1 :: numBytes 2 n ++ numBytes 2 m
    | .skip n => 2 :: numBytes 2 n ++ numBytes 2 0
    | .closePending _ => 3 :: numBytes 2 0 ++ numBytes 2 0) := by
  cases p <;> simp [ParsePos.leaf, leafBytes_eq, numBytes_one, numBytes_two, Leaf.parse]

/-- The STATISTICS leaf. -/
theorem Statistics.leaf_eq (t : Statistics) : t.leaf =
    [0, 0x47, 0, 8] ++ numBytes 2 t.completed ++ numBytes 2 t.aborted ++ numBytes 2 t.faults ++
      numBytes 2 t.degrades := by
  simp [Statistics.leaf, leafBytes_eq, numBytes_two, Leaf.statistics]

/-- The FAULT leaf. -/
theorem faultLeaf_eq (k : FaultKind) (r : Reason) :
    faultLeaf k r = [0, 0x49, 0, 2, BitVec.ofNat 8 k.code, BitVec.ofNat 8 r.code] := by
  simp [faultLeaf, leafBytes_eq, numBytes_one, numBytes_two, Leaf.fault]

/-- The ORDINAL leaf. -/
theorem ordinalLeaf_eq (o : BitVec 16) :
    leafBytes Leaf.ordinal (wordBytes o) = [0, 0x48, 0, 2] ++ numBytes 2 o.toNat := by
  simp [wordBytes_eq_numBytes, leafBytes_eq, numBytes_two, Leaf.ordinal]

/-! ### STATUS and the link error counts (R129, R148) -/

/-- STATUS is answered with the counts as they stand, and clears them where CLEAR is 1. -/
theorem State.status_eq (s : State) (r : CommandRecord) : s.status r =
    if r.value Leaf.clear = some 1 then
      { s.Answers r .ok s.statusLeaves with linkErrors := { crc := 0, badHeader := 0, overrun := 0 } }
    else s.Answers r .ok s.statusLeaves := by
  simp only [State.status, r.flag_iff, State.answer_eq]
  rfl

/-- A unit whose CRC fails is an invalid segment. -/
theorem decodeSegment_of_badCrc {u : List Byte} (hlen : 2 ≤ u.length)
    (hcrc : u.drop (u.length - 2) ≠ wordBytes (crc16 (u.take (u.length - 2)))) :
    decodeSegment u = .error .crc := by
  have check : checkUnit u = .error .crc := by simp [checkUnit, Nat.not_lt.2 hlen, hcrc]
  simp [decodeSegment, check]

/-- A unit whose CRC fails raises the CRC error count and changes nothing else (R129). -/
theorem exec_segmentReceived_of_badCrc (s : State) {u : List Byte} (hup : s.upPort = .up) (hlen : 2 ≤ u.length)
    (hcrc : u.drop (u.length - 2) ≠ wordBytes (crc16 (u.take (u.length - 2)))) :
    exec (.segmentReceived u) s =
      .next { s with linkErrors := { s.linkErrors with crc := satAdd count16Max s.linkErrors.crc 1 } } := by
  simp [exec, execSegmentReceived, hup, decodeSegment_of_badCrc hlen hcrc, State.modErrors, LinkErrors.countError]

/-! ### Edits of the staging bank (R109 to R111) -/

/-- ACTION and LIMIT give no action exactly when one of TRUNCATE and a limit is given without the other. -/
theorem CommandRecord.entryAction_eq_none_iff (r : CommandRecord) {k : Nat} (hk : k ≤ 3)
    (h : r.value Leaf.action = some k) :
    r.entryAction = none ↔ ¬(r.value Leaf.action = some 3 ↔ r.value Leaf.limit ≠ none) := by
  simp only [CommandRecord.entryAction, h]
  interval_cases k <;> cases r.value Leaf.limit <;> simp

/-- Where ACTION and LIMIT agree, the entry's action is the one ACTION names, TRUNCATE with the limit. -/
theorem CommandRecord.entryAction_eq_some (r : CommandRecord) {k : Nat} {a : Action} (hk : k ≤ 3)
    (h : r.value Leaf.action = some k) (agree : r.value Leaf.action = some 3 ↔ r.value Leaf.limit ≠ none)
    (pass : r.value Leaf.action = some 0 → a = .pass) (descend : r.value Leaf.action = some 1 → a = .descend)
    (drop : r.value Leaf.action = some 2 → a = .drop)
    (truncate : ∀ n, r.value Leaf.action = some 3 → r.value Leaf.limit = some n → a = .truncate n) :
    r.entryAction = some a := by
  simp only [h, Option.some.injEq] at agree pass descend drop truncate
  simp only [CommandRecord.entryAction, h, Option.getD_some]
  interval_cases k <;> cases limit : r.value Leaf.limit <;> simp_all

/-- ACTION names a default action unless it names TRUNCATE (R111). -/
theorem CommandRecord.defaultAction_eq_none_iff (r : CommandRecord) {k : Nat} (hk : k ≤ 3)
    (h : r.value Leaf.action = some k) : r.defaultAction = none ↔ r.value Leaf.action = some 3 := by
  simp only [CommandRecord.defaultAction, h]
  interval_cases k <;> simp

/-- The default action is the one ACTION's code names. -/
theorem CommandRecord.defaultAction_eq_some (r : CommandRecord) {n : Nat} {a : DefaultAction}
    (named : (n, a) ∈ [(0, DefaultAction.pass), (1, .descend), (2, .drop)]) (h : r.value Leaf.action = some n) :
    r.defaultAction = some a := by
  simp only [List.mem_cons, Prod.mk.injEq, List.not_mem_nil, or_false] at named
  rcases named with ⟨rfl, rfl⟩ | ⟨rfl, rfl⟩ | ⟨rfl, rfl⟩ <;> simp [CommandRecord.defaultAction, h]

/-- Deleting a key leaves the entries with another key. -/
theorem Bank.delete_eq (b : Bank) (set : Fin 8) (type : RecType) :
    b.delete set type = { b with entries := b.entries.filter fun e => decide ¬(e.set = set ∧ e.type = type) } := by
  simp [Bank.delete, PolicyEntry.hasKey, beq_eq_decide]

section Edits
variable {s : State} {r : CommandRecord}

/-! POLICY INSERT, in the order of R109. -/

theorem State.policyInsert_badArgument (action : r.entryAction = none) :
    s.policyInsert r = s.Answers r .badArgument [] := by
  simp [State.policyInsert, action, State.answer_eq]

variable {a : Action}

theorem State.policyInsert_busy (action : r.entryAction = some a) (closed : s.policy.staging ≠ .ready) :
    s.policyInsert r = s.Answers r .busy [] := by
  simp [State.policyInsert, action, closed, State.answer_eq]

theorem State.policyInsert_exists (action : r.entryAction = some a) (ready : s.policy.staging = .ready)
    (held : s.policy.staged.find r.setArg r.typeArg ≠ none) : s.policyInsert r = s.Answers r .exists_ [] := by
  have found : (s.policy.staged.find r.setArg r.typeArg).isSome = true := Option.isSome_iff_ne_none.2 held
  simp [State.policyInsert, action, ready, found, State.answer_eq]

theorem State.policyInsert_full (action : r.entryAction = some a) (ready : s.policy.staging = .ready)
    (absent : s.policy.staged.find r.setArg r.typeArg = none) (full : 1024 ≤ s.policy.staged.entries.length) :
    s.policyInsert r = s.Answers r .full [] := by
  simp [State.policyInsert, action, ready, absent, full, bankCapacity, State.answer_eq]

theorem State.policyInsert_placed (action : r.entryAction = some a) (ready : s.policy.staging = .ready)
    (absent : s.policy.staged.find r.setArg r.typeArg = none) (room : s.policy.staged.entries.length < 1024) :
    s.policyInsert r = (s.Staged (s.policy.staged.insert (r.entry a))).Answers r .ok
      (editLeaves (s.policy.staged.position r.setArg r.typeArg) (s.policy.staged.entries.length + 1)) := by
  simp only [State.policyInsert, action, ready, absent, bankCapacity, Nat.not_le.2 room]
  rfl

/-! POLICY DELETE, in the order of R110. -/

theorem State.policyDelete_busy (closed : s.policy.staging ≠ .ready) : s.policyDelete r = s.Answers r .busy [] := by
  simp [State.policyDelete, closed, State.answer_eq]

theorem State.policyDelete_notFound (ready : s.policy.staging = .ready)
    (absent : s.policy.staged.find r.setArg r.typeArg = none) : s.policyDelete r = s.Answers r .notFound [] := by
  simp [State.policyDelete, ready, absent, State.answer_eq]

theorem State.policyDelete_removed (ready : s.policy.staging = .ready)
    (held : s.policy.staged.find r.setArg r.typeArg ≠ none) :
    s.policyDelete r = (s.Staged (s.policy.staged.delete r.setArg r.typeArg)).Answers r .ok
      (editLeaves (s.policy.staged.position r.setArg r.typeArg) (s.policy.staged.entries.length - 1)) := by
  have found : (s.policy.staged.find r.setArg r.typeArg).isNone = false :=
    Option.isNone_eq_false_iff.2 (Option.isSome_iff_ne_none.2 held)
  simp only [State.policyDelete, ready, found]
  rfl

/-! DEFAULT SET, in the order of R111. -/

theorem State.defaultSet_badArgument (action : r.defaultAction = none) :
    s.defaultSet r = s.Answers r .badArgument [] := by
  simp [State.defaultSet, action, State.answer_eq]

variable {d : DefaultAction}

theorem State.defaultSet_busy (action : r.defaultAction = some d) (closed : s.policy.staging ≠ .ready) :
    s.defaultSet r = s.Answers r .busy [] := by
  simp [State.defaultSet, action, closed, State.answer_eq]

theorem State.defaultSet_set (action : r.defaultAction = some d) (ready : s.policy.staging = .ready) :
    s.defaultSet r = (s.Staged { s.policy.staged with
      defaults := s.policy.staged.defaults.set r.setArg d }).Answers r .ok [] := by
  simp only [State.defaultSet, action, ready]
  rfl

end Edits

/-! ### Commands whose checks pass -/

section Carried
variable {s : State} {r : CommandRecord}

theorem exec_identify (h : s.Carries 0xF01 [] [] r) :
    exec .identify s = .next (s.Answers r .ok s.identifyLeaves) :=
  s.runCommand_eq _ _ _ (fun s r => s.answer r .ok s.identifyLeaves) r h

theorem exec_status (h : s.Carries 0xF02 [] [Leaf.clear] r) : exec .status s = .next (s.status r) :=
  s.runCommand_eq _ _ _ _ r h

theorem exec_channelGet (h : s.Carries 0xF04 [Leaf.channel] [] r) :
    exec .channelGet s = .next (s.Answers r .ok (s.channelLeaves r.channel)) :=
  s.runCommand_eq _ _ _ (fun s r => s.answer r .ok (s.channelLeaves r.channel)) r h

theorem exec_policyInsert (h : s.Carries 0xF06 [Leaf.set, Leaf.type, Leaf.action]
    [Leaf.remap, Leaf.countIndex, Leaf.limit] r) : exec .policyInsert s = .next (s.policyInsert r) :=
  s.runCommand_eq _ _ _ _ r h

theorem exec_policyDelete (h : s.Carries 0xF07 [Leaf.set, Leaf.type] [] r) :
    exec .policyDelete s = .next (s.policyDelete r) :=
  s.runCommand_eq _ _ _ _ r h

theorem exec_defaultSet (h : s.Carries 0xF09 [Leaf.set, Leaf.action] [] r) :
    exec .defaultSet s = .next (s.defaultSet r) :=
  s.runCommand_eq _ _ _ _ r h

end Carried

end Sys2Proof.Machine
end

section
/-! PROOFS. The obligations of the management protocol that read and edit: IDENTIFY, STATUS, CHANNEL GET and the edits
of the staging bank. -/

open Sys2Proof Sys2Proof.Machine

/-- Settles O45: the leaves of R147, and the straps through each command. -/
theorem identifyAnswers : Obligations.IdentifyAnswers := by
  refine ⟨checksFirst_of_runCommand _ fun _ => rfl, fun s r h => ?_, fun c s t hc h => ?_⟩
  · rw [exec_identify h, s.identifyLeaves_eq]
  · have kept := exec_straps c s hc
    rwa [h, State.carriedOut_next] at kept

/-- Settles O46: STATUS answers before it clears, and a later CRC error is counted from 0; CHANNEL GET's leaves are read
one by one. -/
theorem statusAndChannelGetAnswer : Obligations.StatusAndChannelGetAnswer := by
  refine ⟨checksFirst_of_runCommand State.status fun _ => rfl, checksFirst_of_runCommand _ fun _ => rfl, ?status, ?get,
    rfl, rfl, rfl, rfl, rfl, rfl, rfl, rfl, rfl⟩
  case status =>
    intro s r h one two t
    have answer : s.Answers r .ok s.statusLeaves = t := by
      refine congrArg (s.Answers r .ok) ?_
      simp [one, two, State.statusLeaves, LinkErrors.leaf_eq, leafBytes_eq, numLeaf_one, numBytes_one,
        numBytes_two, Leaf.phase, Leaf.backing, Leaf.failures, Leaf.bank, Leaf.staging, Leaf.refCounts, Leaf.links,
        Leaf.notices]
    have done := exec_status h
    rw [s.status_eq, answer] at done
    refine ⟨fun clear => ⟨by rw [done, if_pos clear], fun u up long bad => ?_⟩,
      fun keep => by rw [done, if_neg keep]⟩
    exact exec_segmentReceived_of_badCrc _ up long bad
  case get =>
    intro s r h c one two bit
    have answers : ∀ leaves, s.channelLeaves c = leaves → exec .channelGet s = .next (s.Answers r .ok leaves) := by
      rintro _ rfl
      exact exec_channelGet h
    refine ⟨fun data => answers _ ?_, fun management => answers _ ?_⟩
    · simp [State.channelLeaves, State.isData, data, c, ChannelConfig.leaves_eq, Channel.liveLeaves,
        Channel.stateLeaf_eq, Channel.boundLeaf_eq, Channel.depthLeaf_eq, Channel.flagsLeaf_eq, ParsePos.leaf_eq,
        Statistics.leaf_eq, ordinalLeaf_eq, faultLeaf_eq, numLeaf_one, numLeaf_two, numBytes_two, one, two, bit,
        flagByte, Leaf.outputDepth, Leaf.stallTimer, Leaf.sequence] <;> rfl
    · simp [State.channelLeaves, State.isData, management, c, numLeaf_one, numLeaf_two, numBytes_two, one, two,
        Leaf.stallReload, Leaf.stallTimer, Leaf.sequence]

/-- Settles O49, through what each edit does in each case. -/
theorem policyEditsTheStagingBank : Obligations.PolicyEditsTheStagingBank := by
  refine ⟨checksFirst_of_runCommand State.policyInsert fun _ => rfl,
    checksFirst_of_runCommand State.policyDelete fun _ => rfl,
    checksFirst_of_runCommand State.defaultSet fun _ => rfl, ?insert, ?delete, ?default⟩
  case insert =>
    intro s r h b p truncates limited gives
    obtain ⟨k, hk, value⟩ := r.action_of_check h.check (by simp)
    have done := exec_policyInsert h
    have none_iff := r.entryAction_eq_none_iff hk value
    refine ⟨fun disagree => done.trans (congrArg _ (State.policyInsert_badArgument (none_iff.2 disagree))),
      fun agree => ?_⟩
    obtain ⟨a, action⟩ := Option.ne_none_iff_exists'.1 fun none => none_iff.1 none agree
    refine ⟨fun closed => done.trans (congrArg _ (State.policyInsert_busy action closed)), fun ready =>
      ⟨fun held => done.trans (congrArg _ (State.policyInsert_exists action ready held)),
      fun absent full => done.trans (congrArg _ (State.policyInsert_full action ready absent full)),
      fun absent room a pass descend drop truncate => ?_⟩⟩
    have action := r.entryAction_eq_some hk value agree pass descend drop truncate
    exact done.trans (congrArg _ (State.policyInsert_placed action ready absent room))
  case delete =>
    intro s r h b gives
    have done := exec_policyDelete h
    refine ⟨fun closed => done.trans (congrArg _ (State.policyDelete_busy closed)), fun ready =>
      ⟨fun absent => done.trans (congrArg _ (State.policyDelete_notFound ready absent)), fun held => ?_⟩⟩
    rw [done, State.policyDelete_removed ready held, Bank.delete_eq]
    rfl
  case default =>
    intro s r h b gives
    obtain ⟨k, hk, value⟩ := r.action_of_check h.check (by simp)
    have done := exec_defaultSet h
    have none_iff := r.defaultAction_eq_none_iff hk value
    refine ⟨fun truncates => done.trans (congrArg _ (State.defaultSet_badArgument (none_iff.2 truncates))),
      fun other closed => ?_, fun n a named given ready => ?_⟩
    · obtain ⟨a, action⟩ := Option.ne_none_iff_exists'.1 fun none => other (none_iff.1 none)
      exact done.trans (congrArg _ (State.defaultSet_busy action closed))
    · have action := r.defaultAction_eq_some named given
      exact done.trans (congrArg _ (State.defaultSet_set action ready))

end

section
/-! PROOFS. The channels' records after the shared operations that leave them alone, and what the others write there. -/

namespace Sys2Proof.Machine

/-! ### A record set twice, or to itself -/

@[simp] theorem State.setCh_setCh (s : State) (c : ChannelNo) (x y : Channel) :
    (s.setCh c x).setCh c y = s.setCh c y := by simp [State.setCh]
@[simp] theorem State.setRx_setRx (s : State) (c : ChannelNo) (x y : RxChannel) :
    (s.setRx c x).setRx c y = s.setRx c y := by simp [State.setRx]
@[simp] theorem State.setTx_setTx (s : State) (c : ChannelNo) (x y : TxChannel) :
    (s.setTx c x).setTx c y = s.setTx c y := by simp [State.setTx]
@[simp] theorem State.setCh_self (s : State) (c : ChannelNo) : s.setCh c (s.ch c) = s := by
  simp [State.setCh, State.ch]
@[simp] theorem State.setRx_self (s : State) (c : ChannelNo) : s.setRx c (s.rxOf c) = s := by
  simp [State.setRx, State.rxOf]
@[simp] theorem State.setTx_self (s : State) (c : ChannelNo) : s.setTx c (s.txOf c) = s := by
  simp [State.setTx, State.txOf]

/-! Records of different blocks are set in any order; the channel record is set last. -/

@[simp] theorem State.setCh_setTx (s : State) (c d : ChannelNo) (x : Channel) (y : TxChannel) :
    (s.setCh c x).setTx d y = (s.setTx d y).setCh c x := rfl
@[simp] theorem State.setCh_setRx (s : State) (c d : ChannelNo) (x : Channel) (y : RxChannel) :
    (s.setCh c x).setRx d y = (s.setRx d y).setCh c x := rfl
@[simp] theorem State.setTx_setRx (s : State) (c d : ChannelNo) (x : TxChannel) (y : RxChannel) :
    (s.setTx c x).setRx d y = (s.setRx d y).setTx c x := rfl

/-! ### queueNotice -/

@[simp] theorem State.queueNotice_ch (s : State) (n : Notice) (d : ChannelNo) : (s.queueNotice n).ch d = s.ch d := by
  rw [State.ch, State.queueNotice_table, State.ch]
@[simp] theorem State.queueNotice_rxOf (s : State) (n : Notice) (d : ChannelNo) : (s.queueNotice n).rxOf d = s.rxOf d := by
  rw [State.rxOf, State.queueNotice_rx, State.rxOf]
@[simp] theorem State.queueNotice_txOf (s : State) (n : Notice) (d : ChannelNo) : (s.queueNotice n).txOf d = s.txOf d := by
  rw [State.txOf, State.queueNotice_tx, State.txOf]
@[simp] theorem State.queueNotice_isData (s : State) (n : Notice) (d : ChannelNo) : (s.queueNotice n).isData d = s.isData d := by
  rw [State.isData, State.queueNotice_straps, State.isData]

/-! ### count -/

@[simp] theorem State.count_ch (s : State) (i : Option (Fin 256)) (a b : Nat) (d : ChannelNo) : (s.count i a b).ch d = s.ch d := by
  rw [State.ch, State.count_table, State.ch]
@[simp] theorem State.count_rxOf (s : State) (i : Option (Fin 256)) (a b : Nat) (d : ChannelNo) : (s.count i a b).rxOf d = s.rxOf d := by
  rw [State.rxOf, State.count_rx, State.rxOf]
@[simp] theorem State.count_txOf (s : State) (i : Option (Fin 256)) (a b : Nat) (d : ChannelNo) : (s.count i a b).txOf d = s.txOf d := by
  rw [State.txOf, State.count_tx, State.txOf]
@[simp] theorem State.count_isData (s : State) (i : Option (Fin 256)) (a b : Nat) (d : ChannelNo) : (s.count i a b).isData d = s.isData d := by
  rw [State.isData, State.count_straps, State.isData]

/-! ### releaseBound -/

@[simp] theorem State.releaseBound_ch (s : State) (b : Option Binding) (d : ChannelNo) : (s.releaseBound b).ch d = s.ch d := by
  rw [State.ch, State.releaseBound_table, State.ch]
@[simp] theorem State.releaseBound_rxOf (s : State) (b : Option Binding) (d : ChannelNo) : (s.releaseBound b).rxOf d = s.rxOf d := by
  rw [State.rxOf, State.releaseBound_rx, State.rxOf]
@[simp] theorem State.releaseBound_txOf (s : State) (b : Option Binding) (d : ChannelNo) : (s.releaseBound b).txOf d = s.txOf d := by
  rw [State.txOf, State.releaseBound_tx, State.txOf]
@[simp] theorem State.releaseBound_isData (s : State) (b : Option Binding) (d : ChannelNo) : (s.releaseBound b).isData d = s.isData d := by
  rw [State.isData, State.releaseBound_straps, State.isData]

/-! ### removeJob -/

@[simp] theorem State.removeJob_ch (s : State) (c : ChannelNo) (d : ChannelNo) : (s.removeJob c).ch d = s.ch d := by
  rw [State.ch, State.removeJob_table, State.ch]
@[simp] theorem State.removeJob_rxOf (s : State) (c : ChannelNo) (d : ChannelNo) : (s.removeJob c).rxOf d = s.rxOf d := by
  rw [State.rxOf, State.removeJob_rx, State.rxOf]
@[simp] theorem State.removeJob_txOf (s : State) (c : ChannelNo) (d : ChannelNo) : (s.removeJob c).txOf d = s.txOf d := by
  rw [State.txOf, State.removeJob_tx, State.txOf]
@[simp] theorem State.removeJob_isData (s : State) (c : ChannelNo) (d : ChannelNo) : (s.removeJob c).isData d = s.isData d := by
  rw [State.isData, State.removeJob_straps, State.isData]

/-! ### settleTurn -/

@[simp] theorem State.settleTurn_ch (s : State) (d : ChannelNo) : (s.settleTurn).ch d = s.ch d := by
  rw [State.ch, State.settleTurn_table, State.ch]
@[simp] theorem State.settleTurn_rxOf (s : State) (d : ChannelNo) : (s.settleTurn).rxOf d = s.rxOf d := by
  rw [State.rxOf, State.settleTurn_rx, State.rxOf]
@[simp] theorem State.settleTurn_txOf (s : State) (d : ChannelNo) : (s.settleTurn).txOf d = s.txOf d := by
  rw [State.txOf, State.settleTurn_tx, State.txOf]
@[simp] theorem State.settleTurn_isData (s : State) (d : ChannelNo) : (s.settleTurn).isData d = s.isData d := by
  rw [State.isData, State.settleTurn_straps, State.isData]

/-! ### raiseJob -/

@[simp] theorem State.raiseJob_ch (s : State) (j : Job) (d : ChannelNo) : (s.raiseJob j).ch d = s.ch d := by
  rw [State.ch, State.raiseJob_table, State.ch]
@[simp] theorem State.raiseJob_rxOf (s : State) (j : Job) (d : ChannelNo) : (s.raiseJob j).rxOf d = s.rxOf d := by
  rw [State.rxOf, State.raiseJob_rx, State.rxOf]
@[simp] theorem State.raiseJob_txOf (s : State) (j : Job) (d : ChannelNo) : (s.raiseJob j).txOf d = s.txOf d := by
  rw [State.txOf, State.raiseJob_tx, State.txOf]
@[simp] theorem State.raiseJob_isData (s : State) (j : Job) (d : ChannelNo) : (s.raiseJob j).isData d = s.isData d := by
  rw [State.isData, State.raiseJob_straps, State.isData]

/-! ### respond -/

@[simp] theorem State.respond_ch (s : State) (t : RecType) (tag : Option (List Byte)) (e : Completion) (l : List Byte) (d : ChannelNo) : (s.respond t tag e l).ch d = s.ch d := by
  rw [State.ch, State.respond_table, State.ch]
@[simp] theorem State.respond_rxOf (s : State) (t : RecType) (tag : Option (List Byte)) (e : Completion) (l : List Byte) (d : ChannelNo) : (s.respond t tag e l).rxOf d = s.rxOf d := by
  rw [State.rxOf, State.respond_rx, State.rxOf]
@[simp] theorem State.respond_txOf (s : State) (t : RecType) (tag : Option (List Byte)) (e : Completion) (l : List Byte) (d : ChannelNo) : (s.respond t tag e l).txOf d = s.txOf d := by
  rw [State.txOf, State.respond_tx, State.txOf]
@[simp] theorem State.respond_isData (s : State) (t : RecType) (tag : Option (List Byte)) (e : Completion) (l : List Byte) (d : ChannelNo) : (s.respond t tag e l).isData d = s.isData d := by
  rw [State.isData, State.respond_straps, State.isData]

/-! ### answer -/

@[simp] theorem State.answer_ch (s : State) (r : CommandRecord) (e : Completion) (l : List Byte) (d : ChannelNo) : (s.answer r e l).ch d = s.ch d := by
  rw [State.ch, State.answer_table, State.ch]
@[simp] theorem State.answer_rxOf (s : State) (r : CommandRecord) (e : Completion) (l : List Byte) (d : ChannelNo) : (s.answer r e l).rxOf d = s.rxOf d := by
  rw [State.rxOf, State.answer_rx, State.rxOf]
@[simp] theorem State.answer_txOf (s : State) (r : CommandRecord) (e : Completion) (l : List Byte) (d : ChannelNo) : (s.answer r e l).txOf d = s.txOf d := by
  rw [State.txOf, State.answer_tx, State.txOf]
@[simp] theorem State.answer_isData (s : State) (r : CommandRecord) (e : Completion) (l : List Byte) (d : ChannelNo) : (s.answer r e l).isData d = s.isData d := by
  rw [State.isData, State.answer_straps, State.isData]

/-! ### noticeBacking -/

@[simp] theorem State.noticeBacking_ch (s : State) (d : ChannelNo) : (s.noticeBacking).ch d = s.ch d := by
  rw [State.ch, State.noticeBacking_table, State.ch]
@[simp] theorem State.noticeBacking_rxOf (s : State) (d : ChannelNo) : (s.noticeBacking).rxOf d = s.rxOf d := by
  rw [State.rxOf, State.noticeBacking_rx, State.rxOf]
@[simp] theorem State.noticeBacking_txOf (s : State) (d : ChannelNo) : (s.noticeBacking).txOf d = s.txOf d := by
  rw [State.txOf, State.noticeBacking_tx, State.txOf]
@[simp] theorem State.noticeBacking_isData (s : State) (d : ChannelNo) : (s.noticeBacking).isData d = s.isData d := by
  rw [State.isData, State.noticeBacking_straps, State.isData]

/-! ### hand -/

@[simp] theorem State.hand_rxOf (s : State) (c : ChannelNo) (u : List Byte) (d : ChannelNo) : (s.hand c u).rxOf d = s.rxOf d := by
  rw [State.rxOf, State.hand_rx, State.rxOf]
@[simp] theorem State.hand_isData (s : State) (c : ChannelNo) (u : List Byte) (d : ChannelNo) : (s.hand c u).isData d = s.isData d := by
  rw [State.isData, State.hand_straps, State.isData]

/-! ### emitHeader -/

@[simp] theorem State.emitHeader_rxOf (s : State) (c : ChannelNo) (h : Option Header) (d : ChannelNo) : (s.emitHeader c h).rxOf d = s.rxOf d := by
  rw [State.rxOf, State.emitHeader_rx, State.rxOf]
@[simp] theorem State.emitHeader_isData (s : State) (c : ChannelNo) (h : Option Header) (d : ChannelNo) : (s.emitHeader c h).isData d = s.isData d := by
  rw [State.isData, State.emitHeader_straps, State.isData]

/-! ### markSpillInvalid -/

@[simp] theorem State.markSpillInvalid_rxOf (s : State) (d : ChannelNo) : (s.markSpillInvalid).rxOf d = s.rxOf d := by
  rw [State.rxOf, State.markSpillInvalid_rx, State.rxOf]
@[simp] theorem State.markSpillInvalid_txOf (s : State) (d : ChannelNo) : (s.markSpillInvalid).txOf d = s.txOf d := by
  rw [State.txOf, State.markSpillInvalid_tx, State.txOf]
@[simp] theorem State.markSpillInvalid_isData (s : State) (d : ChannelNo) : (s.markSpillInvalid).isData d = s.isData d := by
  rw [State.isData, State.markSpillInvalid_straps, State.isData]

/-! ### What output writes -/

@[simp] theorem State.hand_ch (s : State) (c d : ChannelNo) (u : List Byte) :
    (s.hand c u).ch d = if d = c then { s.ch c with outputStarted := true } else s.ch d := by simp [State.hand]
@[simp] theorem State.hand_txOf (s : State) (c d : ChannelNo) (u : List Byte) :
    (s.hand c u).txOf d = if d = c then (s.txOf c).hand u else s.txOf d := by simp [State.hand]
@[simp] theorem State.emitHeader_ch (s : State) (c d : ChannelNo) (h : Option Header) :
    (s.emitHeader c h).ch d =
      if d = c then { s.ch c with outputStarted := (s.ch c).outputStarted || h.isSome } else s.ch d := by
  cases h with
  | none => split <;> simp_all [State.emitHeader]
  | some h => simp [State.emitHeader]
@[simp] theorem State.accountChild_ch (s : State) (c d : ChannelNo) (n : Nat) :
    (s.accountChild c n).ch d = if d = c then (s.ch c).modInnermost fun e => e.account n else s.ch d := by
  simp [State.accountChild]
@[simp] theorem State.recordDegrade_ch (s : State) (c d : ChannelNo) (t : RecType) (k : FaultKind) :
    (s.recordDegrade c t k).ch d = if d = c then
      { s.ch c with
        stats := { (s.ch c).stats with degrades := satAdd count16Max (s.ch c).stats.degrades 1 }
        degradedThisMessage := true }
    else s.ch d := by
  simp only [State.recordDegrade]
  split <;> simp

end Sys2Proof.Machine
end

section
/-! PROOFS. One induction over the commands. A property of the state that the operations below keep, each under the
conditions it is used in, is kept by every command; what an operation may do to a record is said once, as an edit of the
record. -/

namespace Sys2Proof.Machine

/-! ### Edits of the records -/

/-- The counts that a channel record holds are in their ranges (R28, R30, R54). -/
structure Channel.CountsOk (ch : Channel) : Prop where
  stats : ch.stats.completed ≤ 65535 ∧ ch.stats.aborted ≤ 65535 ∧ ch.stats.faults ≤ 65535 ∧ ch.stats.degrades ≤ 65535
  consumed : ∀ e, ch.Holds e → e.consumed ≤ 16777215
  timers : ch.config.stallReload ≤ 65535 ∧ ch.stallTimer ≤ 65535

/-- What an operation on a channel record does that neither opens nor ends a message and opens no scope: scopes and the
pending push go only from a channel that is IN_MESSAGE. -/
structure Channel.Edits (ch x : Channel) : Prop where
  state : x.state = ch.state
  bound : x.bound = ch.bound
  config : x.config = ch.config
  started : x.outputStarted = ch.outputStarted
  spilled : x.spilled = ch.spilled
  stack : (x.resident.length = ch.resident.length ∧ x.pendingPush = ch.pendingPush) ∨
    (ch.state = .inMessage ∧ x.resident.length ≤ ch.resident.length ∧
      (x.pendingPush = ch.pendingPush ∨ x.pendingPush = none))
  counts : ch.CountsOk → x.CountsOk

theorem Channel.Edits.refl (ch : Channel) : ch.Edits ch := ⟨rfl, rfl, rfl, rfl, rfl, .inl ⟨rfl, rfl⟩, id⟩

/-- The buffers of a transmitter record are within their slots (R134, R135). -/
def TxChannel.Fits (t : TxChannel) : Prop :=
  t.ordinaryCount ≤ 7 ∧ (t.egress.filter EgressSegment.terminal).length ≤ 1 ∧ t.pendingBytes.length < 64

/-- What an operation on a transmitter record does that places no terminal segment. -/
structure TxChannel.Edits (t x : TxChannel) : Prop where
  fits : t.Fits → x.Fits
  terminal : t.terminalWaiting = false → x.terminalWaiting = false
  credits : t.credits ≤ 8 → x.credits ≤ 8

theorem TxChannel.Edits.refl (t : TxChannel) : t.Edits t := ⟨id, id, id⟩

/-- The counts, timers and arguments that the Management Unit holds are in their ranges (R32, R133, R143, R162). -/
structure MgmtUnit.CountsOk (m : MgmtUnit) : Prop where
  credits : m.credits ≤ 4
  notices : m.notices.length ≤ 32 ∧ m.lost ≤ 255
  timer : m.stallReload ≤ 65535 ∧ m.stallTimer ≤ 65535
  collected : ∀ sc ∈ m.collector.scopes, sc.consumed ≤ 16777215
  arguments : m.collector.command.ArgsOk ∧ (∀ r, m.unit = .executing (.ready r) → r.ArgsOk) ∧
    ∀ t left v, m.collector.pos = .argument t left v → 0 < left ∧ argLength t = some (left + v.length)

/-- What an operation on the Management Unit does, a taking of RESTART apart: the phase never goes back. -/
structure MgmtUnit.Edits (m x : MgmtUnit) : Prop where
  phase : x.phase = m.phase ∨ x.phase = .operating
  counts : m.CountsOk → x.CountsOk

theorem MgmtUnit.Edits.refl (m : MgmtUnit) : m.Edits m := ⟨.inl rfl, id⟩

/-- What an operation on the Spill Port does that raises no job: jobs go, and a queued one may be taken. -/
structure SpillPort.Edits (p x : SpillPort) : Prop where
  queue : x.queue ⊆ p.queue
  flying : x.flying ⊆ p.flying ++ p.queue
  once : List.Subperm (x.flying ++ x.queue) (p.flying ++ p.queue)
  failures : p.failures ≤ 2 → x.failures ≤ 2

/-- The counter pairs are in their ranges (R119). -/
def CountersOk (v : Vector CounterPair 256) : Prop :=
  ∀ i : Fin 256, v[i].records ≤ 4294967295 ∧ v[i].bytes ≤ 281474976710655

/-- The link error counts are in their ranges (R129). -/
def LinkErrors.CountsOk (e : LinkErrors) : Prop := e.crc ≤ 65535 ∧ e.badHeader ≤ 65535 ∧ e.overrun ≤ 65535

/-- The slots a Segment Receiver record accounts for: credit outstanding and slots occupied (R132). -/
def RxChannel.slots (r : RxChannel) : Nat := r.credit + r.occupied

/-- What an edit of the Policy Store is: the contents of a READY staging bank changed, the roles exchanged, or the copy
completed. -/
inductive PolicyStore.EditsTo (p : PolicyStore) : PolicyStore → Prop where
  | stage (ready : p.staging = .ready) (b : Bank) (refs : b.refs = p.staged.refs)
      (ordered : p.staged.Ordered → b.Ordered) : p.EditsTo (p.setStaged b)
  | commit (ready : p.staging = .ready) : p.EditsTo p.commit
  | copied (copying : p.staging = .copying) : p.EditsTo p.copied

/-! ### Properties that the operations keep -/

/-- A scope may open at once: it is within the window and the depth, with nothing consumed yet (R48, R72). -/
structure Channel.MayOpen (ch : Channel) (e : ScopeEntry) : Prop where
  window : ch.resident.length < ch.config.windowSize
  depth : ch.depth + 1 ≤ ch.config.maxDepth
  fresh : e.consumed = 0

/-- A property that the operations keep which the events of a running part are made of. -/
structure KeptByOps (P : State → Prop) : Prop where
  wires : ∀ (s : State) (u v : PortState) (p : ChannelNo) (t : Option ChannelNo) (d : ChannelNo) (x : Option DnSending),
    P s → P { s with upPort := u, dnPort := v, pointer := p, turn := t, dnPointer := d, dnSending := x }
  errors : ∀ (s : State) (e : LinkErrors), P s → (s.linkErrors.CountsOk → e.CountsOk) → P { s with linkErrors := e }
  counters : ∀ (s : State) (v : Vector CounterPair 256), P s → (CountersOk s.counters → CountersOk v) →
    P { s with counters := v }
  channels : ∀ (s : State) (v : Vector Channel 16), P s → (∀ c : ChannelNo, (s.ch c).Edits v[c]) → P { s with table := v }
  receivers : ∀ (s : State) (v : Vector RxChannel 16), P s →
    (∀ c : ChannelNo, v[c].slots ≤ max 4 (s.rxOf c).slots) → P { s with rx := v }
  transmitters : ∀ (s : State) (v : Vector TxChannel 16), P s → (∀ c : ChannelNo, (s.txOf c).Edits v[c]) →
    P { s with tx := v }
  unit : ∀ (s : State) (m : MgmtUnit), P s → s.mgmt.Edits m → P { s with mgmt := m }
  port : ∀ (s : State) (p : SpillPort), P s → s.spill.Edits p → P { s with spill := p }
  /-- A unit is handed only with egress room for it (R63). -/
  hand : ∀ (s : State) (c : ChannelNo) (u : List Byte), P s → (s.ch c).state = .inMessage → u.length ≤ 64 →
    s.hasRoom c u.length = true → P (s.hand c u)
  /-- Only an open message is unwound (R24). -/
  unwind : ∀ (s : State) (c : ChannelNo) (a : Bool) (x : DrainExit), P s → (s.ch c).state.messageOpen = true →
    P (s.unwind c a x)
  /-- A message starts with a segment taken in AWAIT (R18). -/
  start : ∀ (s : State) (c : ChannelNo) (g : Segment) (gs : List Segment), P s → (s.ch c).state = .await →
    s.isData c = true → (s.rxOf c).ingress = g :: gs →
    P ((s.modRx c fun r => { r with ingress := gs }).startMessage c g)
  /-- A message ends cleanly without a scope and without a pending push, which a channel in AWAIT has not either (R11). -/
  finish : ∀ (s : State) (c : ChannelNo), P s → (s.ch c).state = .inMessage → (s.ch c).resident = [] →
    (s.ch c).spilled = 0 → ((s.ch c).pendingPush = none ∨
      ∃ u, P u ∧ (u.ch c).state = .await ∧ (u.ch c).pendingPush = (s.ch c).pendingPush) → P (s.endMessage c)
  /-- What a RAGGED step withholds, it had not before it (R67). -/
  withhold : ∀ (s t : State) (c : ChannelNo), P s → P t → (s.ch c).state = .inMessage → (t.ch c).state = .inMessage →
    (t.ch c).pendingPush = none → P (s.withhold t c)
  /-- A scope opens within the window and the depth, or by the pending push after its spill (R49, R72). -/
  opens : ∀ (s : State) (c : ChannelNo) (p : PendingPush), P s → (s.ch c).state = .inMessage →
    ((s.ch c).MayOpen p.entry ∨ ((s.ch c).pendingPush = some p ∧ p.refused = false)) → P (s.modCh c fun ch => { ch with
      resident := ch.resident ++ [p.entry]
      outputDepth := if p.entry.disposition == .filter then ch.outputDepth + 1 else ch.outputDepth
      pendingPush := none
      parse := .header [] })
  /-- A spill is raised by a push that the checks pass (R72, R76). -/
  spills : ∀ (s : State) (c : ChannelNo) (p : PendingPush), P s → (s.ch c).state = .inMessage →
    (s.ch c).pendingPush = none → pushCheck (s.ch c) s.spill.backing = none → (s.ch c).windowFull = true →
    p.entry.consumed = 0 →
    P ((s.raiseJob
        { channel := c, kind := .spill, count := (s.ch c).config.windowSize / 2
          start := (s.ch c).spilled }).modCh c fun ch => { ch with state := .spillWait, pendingPush := some p })
  /-- A fill is raised where a pop empties the window over spilled scopes (R80). -/
  fills : ∀ (s : State) (c : ChannelNo) (e : ScopeEntry), P s → (s.ch c).state = .inMessage →
    (s.ch c).pendingPush = none → (s.ch c).resident = [] → 0 < (s.ch c).spilled →
    (∃ u, P u ∧ (u.ch c).Holds e) →
    P ((s.raiseJob
        { channel := c, kind := .fill, count := (s.ch c).config.windowSize / 2
          start := (s.ch c).spilled - (s.ch c).config.windowSize / 2 }).modCh c
      fun ch => { ch with state := .fillWait, parse := .closePending e })
  /-- A spill completes (R77). -/
  spilled : ∀ (s : State) (j : Job) (p : SelectPeriod), P s → s.spill.inFlight = some (.data j p) →
    (s.ch j.channel).state = .spillWait → P (s.freeWires.modCh j.channel fun ch => ch.spillTaken j.count)
  /-- A fill completes (R82). -/
  filled : ∀ (s : State) (j : Job) (p : SelectPeriod) (es : List ScopeEntry), P s →
    s.spill.inFlight = some (.data j p) → (s.ch j.channel).state = .fillWait → es.length = j.count →
    (∀ e ∈ es, e.consumed ≤ 16777215) → P (s.freeWires.modCh j.channel fun ch => ch.fillTaken j.count es)
  /-- A channel leaves DRAIN when its job's transfer is over (R25). -/
  drained : ∀ (s : State) (c : ChannelNo), P s → s.spill.inFlight = none → (s.ch c).state = .drain →
    P (s.modCh c fun ch => { ch with state := ch.drainExit.toState })

/-- A property that the events of a running part keep: the operations, and the refusal of the queued jobs (R98). -/
structure KeptByEvents (P : State → Prop) : Prop extends KeptByOps P where
  refused : ∀ s : State, P s → P (s.spill.queue.foldl State.refuseJob (s.modSpill fun p => { p with queue := [] }))

/-- A property that the management commands' operations keep too. -/
structure KeptByCommands (P : State → Prop) : Prop extends KeptByEvents P where
  queues : ∀ (s : State) (l : List RestartEvent), P s → P { s with duringRestart := l }
  /-- Channels without a message are enabled, disabled and opened (R15, R170). -/
  rests : ∀ (s : State) (v : Vector Channel 16), P s → (∀ c : ChannelNo, v[c] = s.ch c ∨
    (s.isData c = true ∧ ∃ x, v[c] = { s.ch c with state := x } ∧ (s.ch c).state ∈ [.held, .await, .disabled] ∧
      x ∈ [.held, .await, .disabled] ∧ (x = .await → s.mgmt.phase = .operating))) → P { s with table := v }
  /-- CHANNEL SET writes the configuration of a data channel (R14, R149). -/
  configures : ∀ (s : State) (r : CommandRecord) (required optional : List RecType), P s →
    s.mgmt.unit = .executing (.ready r) → r.check required optional = none → s.isData r.channel = true →
    (s.mgmt.phase = .operating → r.setsLocked = false) →
    P (s.modCh r.channel fun ch => { ch with config := ch.config.write r })
  policy : ∀ (s : State) (p : PolicyStore), P s → s.policy.EditsTo p → P { s with policy := p }
  restart : ∀ (s : State) (r : CommandRecord), P s → P (s.restart r)

/-! ### Edits of a channel record -/

section Edits
variable {ch : Channel}

/-- An edit that leaves the scopes, the pending push, the statistics and the timer alone. -/
theorem Channel.Edits.of_parse {p : ParsePos} (h : p.isClosePending = false) : ch.Edits { ch with parse := p } := by
  refine ⟨rfl, rfl, rfl, rfl, rfl, .inl ⟨rfl, rfl⟩, fun ok => ⟨ok.stats, fun e held => ok.consumed e ?_, ok.timers⟩⟩
  rcases held with mem | push | close
  · exact .inl mem
  · exact .inr (.inl push)
  · obtain rfl : p = .closePending e := close
    cases h

theorem Channel.Edits.trans {x y : Channel} (h : ch.Edits x) (k : x.Edits y) : ch.Edits y := by
  refine ⟨k.state.trans h.state, k.bound.trans h.bound, k.config.trans h.config, k.started.trans h.started,
    k.spilled.trans h.spilled, ?_, k.counts ∘ h.counts⟩
  have hs := h.stack
  have ks := k.stack
  rw [h.state] at ks
  rcases hs with ⟨h1, h2⟩ | ⟨m, h1, h2⟩ <;> rcases ks with ⟨k1, k2⟩ | ⟨n, k1, k2⟩
  · exact .inl ⟨k1.trans h1, k2.trans h2⟩
  · exact .inr ⟨n, h1 ▸ k1, h2 ▸ k2⟩
  · exact .inr ⟨m, k1 ▸ h1, k2 ▸ h2⟩
  · exact .inr ⟨m, k1.trans h1, k2.elim (fun e => e ▸ h2) .inr⟩

theorem Channel.modInnermost_eq (ch : Channel) (f : ScopeEntry → ScopeEntry) :
    ch.modInnermost f = { ch with resident := (ch.modInnermost f).resident } := by
  simp only [Channel.modInnermost]
  cases ch.innermost <;> rfl

@[simp] theorem Channel.modInnermost_config (ch : Channel) (f : ScopeEntry → ScopeEntry) :
    (ch.modInnermost f).config = ch.config := by rw [ch.modInnermost_eq]
@[simp] theorem Channel.modInnermost_state (ch : Channel) (f : ScopeEntry → ScopeEntry) :
    (ch.modInnermost f).state = ch.state := by rw [ch.modInnermost_eq]
@[simp] theorem Channel.modInnermost_drainExit (ch : Channel) (f : ScopeEntry → ScopeEntry) :
    (ch.modInnermost f).drainExit = ch.drainExit := by rw [ch.modInnermost_eq]
@[simp] theorem Channel.modInnermost_bound (ch : Channel) (f : ScopeEntry → ScopeEntry) :
    (ch.modInnermost f).bound = ch.bound := by rw [ch.modInnermost_eq]
@[simp] theorem Channel.modInnermost_window (ch : Channel) (f : ScopeEntry → ScopeEntry) :
    (ch.modInnermost f).window = ch.window := by rw [ch.modInnermost_eq]
@[simp] theorem Channel.modInnermost_spilled (ch : Channel) (f : ScopeEntry → ScopeEntry) :
    (ch.modInnermost f).spilled = ch.spilled := by rw [ch.modInnermost_eq]
@[simp] theorem Channel.modInnermost_spillInvalid (ch : Channel) (f : ScopeEntry → ScopeEntry) :
    (ch.modInnermost f).spillInvalid = ch.spillInvalid := by rw [ch.modInnermost_eq]
@[simp] theorem Channel.modInnermost_parse (ch : Channel) (f : ScopeEntry → ScopeEntry) :
    (ch.modInnermost f).parse = ch.parse := by rw [ch.modInnermost_eq]
@[simp] theorem Channel.modInnermost_pendingPush (ch : Channel) (f : ScopeEntry → ScopeEntry) :
    (ch.modInnermost f).pendingPush = ch.pendingPush := by rw [ch.modInnermost_eq]
@[simp] theorem Channel.modInnermost_outputStarted (ch : Channel) (f : ScopeEntry → ScopeEntry) :
    (ch.modInnermost f).outputStarted = ch.outputStarted := by rw [ch.modInnermost_eq]
@[simp] theorem Channel.modInnermost_outputDepth (ch : Channel) (f : ScopeEntry → ScopeEntry) :
    (ch.modInnermost f).outputDepth = ch.outputDepth := by rw [ch.modInnermost_eq]
@[simp] theorem Channel.modInnermost_degradedThisMessage (ch : Channel) (f : ScopeEntry → ScopeEntry) :
    (ch.modInnermost f).degradedThisMessage = ch.degradedThisMessage := by rw [ch.modInnermost_eq]
@[simp] theorem Channel.modInnermost_egressBlocked (ch : Channel) (f : ScopeEntry → ScopeEntry) :
    (ch.modInnermost f).egressBlocked = ch.egressBlocked := by rw [ch.modInnermost_eq]
@[simp] theorem Channel.modInnermost_stallTimer (ch : Channel) (f : ScopeEntry → ScopeEntry) :
    (ch.modInnermost f).stallTimer = ch.stallTimer := by rw [ch.modInnermost_eq]
@[simp] theorem Channel.modInnermost_stallArmed (ch : Channel) (f : ScopeEntry → ScopeEntry) :
    (ch.modInnermost f).stallArmed = ch.stallArmed := by rw [ch.modInnermost_eq]
@[simp] theorem Channel.modInnermost_stats (ch : Channel) (f : ScopeEntry → ScopeEntry) :
    (ch.modInnermost f).stats = ch.stats := by rw [ch.modInnermost_eq]
@[simp] theorem Channel.modInnermost_ordinal (ch : Channel) (f : ScopeEntry → ScopeEntry) :
    (ch.modInnermost f).ordinal = ch.ordinal := by rw [ch.modInnermost_eq]
@[simp] theorem Channel.modInnermost_lastFaultKind (ch : Channel) (f : ScopeEntry → ScopeEntry) :
    (ch.modInnermost f).lastFaultKind = ch.lastFaultKind := by rw [ch.modInnermost_eq]
@[simp] theorem Channel.modInnermost_lastFaultReason (ch : Channel) (f : ScopeEntry → ScopeEntry) :
    (ch.modInnermost f).lastFaultReason = ch.lastFaultReason := by rw [ch.modInnermost_eq]

@[simp] theorem Channel.modInnermost_length (ch : Channel) (f : ScopeEntry → ScopeEntry) :
    (ch.modInnermost f).resident.length = ch.resident.length := by
  simp only [Channel.modInnermost, Channel.innermost]
  cases h : ch.resident.getLast? with
  | none => rfl
  | some e =>
    have : ch.resident ≠ [] := by rintro h'; simp [h'] at h
    have := List.length_pos_iff.2 this
    simp only [List.length_append, List.length_dropLast, List.length_singleton]
    omega

/-- The scopes after the innermost one is changed. -/
theorem Channel.mem_modInnermost {f : ScopeEntry → ScopeEntry} {e : ScopeEntry}
    (h : e ∈ (ch.modInnermost f).resident) : e ∈ ch.resident ∨ ∃ q ∈ ch.resident, e = f q := by
  simp only [Channel.modInnermost, Channel.innermost] at h
  cases last : ch.resident.getLast? with
  | none => rw [last] at h; exact .inl h
  | some q =>
    rw [last] at h
    rcases List.mem_append.1 h with mem | mem
    · exact .inl (List.mem_of_mem_dropLast mem)
    · exact .inr ⟨q, List.mem_of_getLast? last, List.mem_singleton.1 mem⟩

/-- An edit of the innermost scope that keeps its consumed count in range. -/
theorem Channel.Edits.of_modInnermost (f : ScopeEntry → ScopeEntry)
    (h : ∀ q, q.consumed ≤ 16777215 → (f q).consumed ≤ 16777215) : ch.Edits (ch.modInnermost f) := by
  rw [ch.modInnermost_eq]
  refine ⟨rfl, rfl, rfl, rfl, rfl, .inl ⟨ch.modInnermost_length f, rfl⟩,
    fun ok => ⟨ok.stats, fun e held => ?_, ok.timers⟩⟩
  rcases held with mem | push | close
  · rcases Channel.mem_modInnermost mem with mem | ⟨q, inside, rfl⟩
    · exact ok.consumed e (.inl mem)
    · exact h q (ok.consumed q (.inl inside))
  · exact ok.consumed e (.inr (.inl push))
  · exact ok.consumed e (.inr (.inr close))

theorem Channel.Edits.of_account (n : Nat) : ch.Edits (ch.modInnermost fun e => e.account n) :=
  .of_modInnermost _ fun _ _ => satAdd_le _ _ _

/-- The stall timer is loaded with the reload (R30). -/
theorem Channel.Edits.of_loadStall : ch.Edits ch.loadStall :=
  ⟨rfl, rfl, rfl, rfl, rfl, .inl ⟨rfl, rfl⟩, fun ok => ⟨ok.stats, ok.consumed, ok.timers.1, ok.timers.1⟩⟩

/-- A fault is recorded (R23). -/
theorem Channel.Edits.of_recordFault (k : FaultKind) (r : Reason) : ch.Edits (ch.recordFault k r) := by
  refine ⟨rfl, rfl, rfl, rfl, rfl, .inl ⟨rfl, rfl⟩, fun ok => ⟨?_, ok.consumed, ok.timers⟩⟩
  obtain ⟨completed, aborted, -, degrades⟩ := ok.stats
  exact ⟨completed, aborted, satAdd_le _ _ _, degrades⟩

/-- Scopes and the pending push go from a channel that is IN_MESSAGE, with the parse position set. -/
theorem Channel.Edits.of_drop {es : List ScopeEntry} {push : Option PendingPush} {p : ParsePos}
    (run : ch.state = .inMessage) (sub : es.Sublist ch.resident) (hpush : push = ch.pendingPush ∨ push = none)
    (hp : p.isClosePending = false) : ch.Edits { ch with resident := es, pendingPush := push, parse := p } := by
  refine ⟨rfl, rfl, rfl, rfl, rfl, .inr ⟨run, sub.length_le, hpush⟩, fun ok => ⟨ok.stats, fun e held => ?_, ok.timers⟩⟩
  rcases held with mem | ⟨q, eq, rfl⟩ | close
  · exact ok.consumed e (.inl (sub.subset mem))
  · rcases hpush with same | gone
    · exact ok.consumed _ (.inr (.inl ⟨q, same ▸ eq, rfl⟩))
    · cases gone.symm.trans eq
  · obtain rfl : p = .closePending e := close
    cases hp

theorem ParsePos.payload_isClosePending (n m : Nat) : (ParsePos.payload n m).isClosePending = false := by
  simp only [ParsePos.payload]
  repeat' split
  all_goals rfl

/-- The parent of a closed scope is charged (R57). -/
theorem Channel.Edits.of_accountClose {e : ScopeEntry} {x : Channel} (h : ch.accountClose e = some x) : ch.Edits x := by
  simp only [Channel.accountClose] at h
  split at h
  · cases h; exact .refl _
  · split at h
    · cases h
    · cases h
      exact .of_modInnermost _ fun _ _ => satAdd_le _ _ _

end Edits

end Sys2Proof.Machine
end

section
/-! PROOFS. A property that the events' operations keep is kept by the operations several commands share and by the Record
Engine's steps. -/

namespace Sys2Proof.Machine

/-- The engine stands in the middle of a message on this channel, with no push pending. -/
def State.Parses (s : State) (c : ChannelNo) : Prop := (s.ch c).state = .inMessage ∧ (s.ch c).pendingPush = none

/-- A notice keeps the unit's counts in their ranges (R162). -/
theorem State.queueNotice_edits (s : State) (n : Notice) : s.mgmt.Edits (s.queueNotice n).mgmt := by
  simp only [State.queueNotice, State.modMgmt]
  split
  · next room =>
    refine ⟨.inl rfl, fun ok => ⟨ok.credits, ⟨?_, ok.notices.2⟩, ok.timer, ok.collected, ok.arguments⟩⟩
    simp only [List.length_append, List.length_singleton]
    omega
  · exact ⟨.inl rfl, fun ok => ⟨ok.credits, ⟨ok.notices.1, satAdd_le _ _ _⟩, ok.timer, ok.collected, ok.arguments⟩⟩

/-- A flush places an ordinary segment only where a slot is free (R135). -/
theorem TxChannel.ordinaryCount_placeOrdinary (t : TxChannel) (payload : List Byte) :
    (t.placeOrdinary payload).ordinaryCount = t.ordinaryCount + 1 := by
  simp [TxChannel.ordinaryCount, TxChannel.placeOrdinary, EgressSegment.terminal]

theorem TxChannel.terminal_placeOrdinary (t : TxChannel) (payload : List Byte) :
    (t.placeOrdinary payload).egress.filter EgressSegment.terminal = t.egress.filter EgressSegment.terminal := by
  simp [TxChannel.placeOrdinary, EgressSegment.terminal]

theorem TxChannel.terminalWaiting_eq_false_iff (t : TxChannel) :
    t.terminalWaiting = false ↔ t.egress.filter EgressSegment.terminal = [] := by
  simp [TxChannel.terminalWaiting, List.filter_eq_nil_iff]

/-- Closing the pending bytes is an edit where an ordinary slot is free. -/
theorem TxChannel.Edits.of_closePending {t : TxChannel} (free : t.ordinaryFree = true) : t.Edits t.closePending := by
  have count : t.closePending.ordinaryCount = t.ordinaryCount + 1 := t.ordinaryCount_placeOrdinary _
  have terminal : t.closePending.egress.filter EgressSegment.terminal = t.egress.filter EgressSegment.terminal :=
    t.terminal_placeOrdinary _
  refine ⟨fun ⟨_, one, _⟩ => ⟨?_, terminal ▸ one, by simp [TxChannel.closePending]⟩, ?_, id⟩
  · rw [count]
    exact of_decide_eq_true free
  · rw [TxChannel.terminalWaiting_eq_false_iff, TxChannel.terminalWaiting_eq_false_iff, terminal]
    exact id

theorem TxChannel.Edits.of_flush (t : TxChannel) : t.Edits t.flush := by
  simp only [TxChannel.flush]
  split
  · exact .refl t
  · split
    · next free => exact .of_closePending free
    · exact ⟨id, id, id⟩

/-- The checks before a push find room in the depth, and a window (R72). -/
theorem pushCheck_none_depth {ch : Channel} {b : Backing} (h : pushCheck ch b = none) :
    ch.depth + 1 ≤ ch.config.maxDepth := by
  simp only [pushCheck] at h
  split at h
  · cases h
  · next fits => exact Nat.not_lt.1 fits

/-- A close emitted and counted leaves the channel in its message. -/
theorem State.Parses.closed {s : State} {c : ChannelNo} (parses : s.Parses c) (e : ScopeEntry) :
    ((s.emitClose c e).countClose c e).Parses c := by
  have counted : ∀ t : State, (t.countClose c e).ch c = t.ch c := by
    intro t
    simp only [State.countClose]
    split <;> simp
  simp only [State.Parses, counted, State.emitClose]
  split <;> simpa [State.Parses] using parses

namespace KeptByOps
variable {P : State → Prop} (K : KeptByOps P) {s : State} {c : ChannelNo}
include K

/-! ### One record -/

theorem setCh {x : Channel} (h : P s) (e : (s.ch c).Edits x) : P (s.setCh c x) := by
  refine K.channels s _ h fun d => ?_
  change (s.ch d).Edits ((s.setCh c x).ch d)
  rw [State.setCh_ch]
  split
  · next same => exact same ▸ e
  · exact .refl _

theorem setRx {x : RxChannel} (h : P s) (e : x.slots ≤ max 4 (s.rxOf c).slots) : P (s.setRx c x) := by
  refine K.receivers s _ h fun d => ?_
  change ((s.setRx c x).rxOf d).slots ≤ _
  rw [State.setRx_rxOf]
  split
  · next same => exact same ▸ e
  · exact Nat.le_max_right _ _

theorem setTx {x : TxChannel} (h : P s) (e : (s.txOf c).Edits x) : P (s.setTx c x) := by
  refine K.transmitters s _ h fun d => ?_
  change (s.txOf d).Edits ((s.setTx c x).txOf d)
  rw [State.setTx_txOf]
  split
  · next same => exact same ▸ e
  · exact .refl _

theorem endTurn (h : P s) : P s.endTurn := K.wires s s.upPort s.dnPort s.pointer none s.dnPointer s.dnSending h

theorem settleTurn (h : P s) : P s.settleTurn :=
  K.wires s s.upPort s.dnPort s.pointer s.turnGoesOn s.dnPointer s.dnSending h

theorem beginStep (h : P s) : P (s.beginStep c) := by
  simp only [State.beginStep]
  split
  · exact h
  · exact K.wires s s.upPort s.dnPort c (some c) s.dnPointer s.dnSending h

theorem count (h : P s) (i : Option (Fin 256)) (a b : Nat) : P (s.count i a b) := by
  cases i with
  | none => exact h
  | some i =>
    refine K.counters s _ h fun ok j => ?_
    simp only [Fin.getElem_fin, Vector.getElem_set]
    split
    · exact ⟨satAdd_le _ _ _, satAdd_le _ _ _⟩
    · exact ok j

theorem queueNotice (h : P s) (n : Notice) : P (s.queueNotice n) := K.unit s _ h (s.queueNotice_edits n)

theorem setInUse (h : P s) (u : Option InUse) (used : u.isSome = true → (s.rxOf c).inUse.isSome = true) :
    P (s.setRx c { s.rxOf c with inUse := u }) := by
  refine K.setRx h (le_trans ?_ (Nat.le_max_right _ _))
  simp only [RxChannel.slots, RxChannel.occupied]
  cases hu : u.isSome
  · simp
  · simp [used hu]

/-! ### Faults and the end of a segment -/

theorem fault (h : P s) (isOpen : (s.ch c).state.messageOpen = true) (k : FaultKind) (r : Reason) (a : Bool) :
    P (s.fault c k r a) := by
  refine K.unwind _ c a .await (K.queueNotice (K.setCh h (.of_recordFault k r)) _) ?_
  simpa [Channel.recordFault] using isOpen

theorem engineFault (h : P s) (run : (s.ch c).state = .inMessage) (k : FaultKind) (r : Reason) :
    P (s.engineFault c k r) :=
  K.endTurn (K.fault h (by rw [run]; rfl) k r true)

theorem block (h : P s) : P (s.block c) :=
  K.endTurn (K.setCh h ⟨rfl, rfl, rfl, rfl, rfl, .inl ⟨rfl, rfl⟩, fun ok => ⟨ok.stats, ok.consumed, ok.timers⟩⟩)

theorem useUp (h : P s) : P (s.useUp c) := by
  refine K.endTurn (K.setTx (K.setInUse h none (by simp)) ?_)
  simp only [State.modRx_eq, State.setRx_txOf]
  split
  · exact .of_flush _
  · exact .refl _

/-- What follows a step is kept from both ends of it: a RAGGED end needs the state before the step. -/
theorem finishStep_of_clean {t : State} (hs : (t.ch c).cleanEnd = true ∨ (P s ∧ (s.ch c).state = .inMessage))
    (h : P t) (run : (t.ch c).state = .inMessage) (push : (t.ch c).pendingPush = none ∨
      ((t.ch c).cleanEnd = true ∧ ∃ u, P u ∧ (u.ch c).state = .await ∧ (u.ch c).pendingPush = (t.ch c).pendingPush)) :
    P (s.finishStep t c) := by
  simp only [State.finishStep]
  split
  · exact h
  · split
    · exact h
    · split
      · exact K.useUp h
      · split
        · next clean =>
          obtain ⟨resident, spilled, -, -⟩ := (Channel.cleanEnd_iff _).1 clean
          exact K.finish t c h run resident spilled (push.imp_right And.right)
        · next ragged =>
          obtain ⟨hs, srun⟩ := hs.resolve_left ragged
          exact K.engineFault (K.withhold s t c hs h srun run (push.resolve_right fun clean => ragged clean.1))
            (by simpa [State.withhold] using run) _ _

theorem finishStep {t : State} (hs : P s ∧ (s.ch c).state = .inMessage) (h : P t) (parses : t.Parses c) :
    P (s.finishStep t c) :=
  K.finishStep_of_clean (.inr hs) h parses.1 (.inl parses.2)

/-! ### Taking a segment -/

theorem awaitTake (h : P s) (await : (s.ch c).state = .await) (data : s.isData c = true) :
    P (s.awaitTake c) := by
  simp only [State.awaitTake]
  split
  · exact h
  · next g gs waits =>
    split
    · refine K.endTurn (K.setRx h (le_trans ?_ (Nat.le_max_right _ _)))
      simp only [RxChannel.slots, RxChannel.occupied, waits, List.length_cons]
      omega
    · have clean : ((((s.modRx c fun r => { r with ingress := gs }).startMessage c g)).ch c).cleanEnd = true := by
        simp [State.startMessage, Channel.startMessage, Channel.cleanEnd, Channel.depth, ParsePos.atBoundary]
      refine K.finishStep_of_clean (.inl clean) (K.start s c g gs h await data waits) ?_
        (.inr ⟨clean, s, h, await, ?_⟩)
      all_goals simp [State.startMessage, Channel.startMessage, Channel.loadStall]

theorem unwind_run (h : P s) (run : (s.ch c).state = .inMessage) (x : DrainExit) : P (s.unwind c true x) :=
  K.unwind s c true x h (by rw [run]; rfl)

theorem takeFlags (h : P s) (parses : s.Parses c) : P (s.takeFlags c) := by
  obtain ⟨run, push⟩ := parses
  have loaded : P (s.modCh c Channel.loadStall) := K.setCh h .of_loadStall
  have lrun : ((s.modCh c Channel.loadStall).ch c).state = .inMessage := by simpa [Channel.loadStall] using run
  simp only [State.takeFlags]
  split
  · exact h
  · next g gs waits =>
    have popped : ∀ u : Option InUse,
        P ((s.modCh c Channel.loadStall).modRx c fun r => { r with ingress := gs, inUse := u }) := by
      intro u
      refine K.setRx loaded (le_trans ?_ (Nat.le_max_right _ _))
      simp only [State.modCh_eq, State.setCh_rxOf, RxChannel.slots, RxChannel.occupied, waits, List.length_cons]
      split <;> omega
    split
    · exact K.engineFault loaded lrun _ _
    · split
      · refine K.endTurn (K.unwind_run (K.setCh (popped _) ?_) (by simpa using lrun) _)
        exact ⟨rfl, rfl, rfl, rfl, rfl, .inl ⟨rfl, rfl⟩,
          fun ok => ⟨⟨ok.stats.1, satAdd_le _ _ _, ok.stats.2.2⟩, ok.consumed, ok.timers⟩⟩
      · split
        · exact K.engineFault loaded lrun _ _
        · exact K.finishStep ⟨loaded, lrun⟩ (popped _)
            ⟨by simpa using lrun, by simpa [Channel.loadStall] using push⟩

/-! ### Scopes opened and degraded -/

theorem recordDegrade (h : P s) (type : RecType) (k : FaultKind) : P (s.recordDegrade c type k) := by
  have edit : P (s.modCh c fun ch => { ch with
      stats := { ch.stats with degrades := satAdd count16Max ch.stats.degrades 1 }, degradedThisMessage := true }) :=
    K.setCh h ⟨rfl, rfl, rfl, rfl, rfl, .inl ⟨rfl, rfl⟩,
      fun ok => ⟨⟨ok.stats.1, ok.stats.2.1, ok.stats.2.2.1, satAdd_le _ _ _⟩, ok.consumed, ok.timers⟩⟩
  simp only [State.recordDegrade]
  split
  · exact edit
  · exact K.queueNotice edit _

theorem degrade (h : P s) (run : (s.ch c).state = .inMessage) (room : s.hasRoom c 4 = true) (p : PendingPush)
    (k : FaultKind) : P (s.degrade c p k) := by
  have counted := K.setCh (c := c) (K.recordDegrade (c := c) (K.hand s c p.degradedHeader.toBytes h run
    (Nat.le_of_ble_eq_true rfl) room) p.entry.type k) (.of_account (4 + p.entry.mode.remaining))
  refine K.finishStep ⟨h, run⟩ (K.setCh counted (.of_drop ?_ (.refl _) (.inr rfl)
    (ParsePos.payload_isClosePending _ _))) ⟨?_, ?_⟩
  · simpa using run
  · simpa using run
  · simp

theorem emitHeader (h : P s) (run : (s.ch c).state = .inMessage) {hd : Option Header}
    (room : hd.isNone = true ∨ s.hasRoom c 4 = true) : P (s.emitHeader c hd) := by
  cases hd with
  | none => exact h
  | some hd => exact K.hand s c _ h run (Nat.le_of_ble_eq_true rfl) (room.resolve_left (by simp))

theorem push (h : P s) (run : (s.ch c).state = .inMessage) {p : PendingPush} (room : s.pushHasRoom c p = true)
    (opens : (s.ch c).MayOpen p.entry ∨ ((s.ch c).pendingPush = some p ∧ p.refused = false)) : P (s.push c p) := by
  have emitted : P (s.emitHeader c p.emit) :=
    K.emitHeader h run (by simpa [State.pushHasRoom] using room)
  refine K.finishStep ⟨h, run⟩ (K.opens _ c p emitted (by simpa) (opens.imp ?_ ?_)) ⟨?_, ?_⟩
  · exact fun may => ⟨by simpa using may.window, by simpa [Channel.depth] using may.depth, may.fresh⟩
  · simp
  · simpa using run
  · simp

theorem openScope {u : State} (hu : P u) (h : P s) (parses : s.Parses c) {p : PendingPush}
    (entry : p.entry.consumed = 0) (i : Option (Fin 256)) (n : Nat) : P (u.openScope s c p i n) := by
  obtain ⟨run, none⟩ := parses
  have counted : P (s.count i 1 n) := K.count h _ _ _
  simp only [State.openScope]
  split
  · next passes =>
    split
    · next full => exact K.endTurn (K.spills _ c p counted (by simpa) (by simpa) (by simpa) (by simpa) entry)
    · next notFull =>
      split
      · next room =>
        refine K.push counted (by simpa) ?_ (.inl ⟨?_, ?_, entry⟩)
        · simpa [State.pushHasRoom, State.hasRoom] using room
        · simpa [Channel.windowFull] using notFull
        · simpa using pushCheck_none_depth passes
      · exact K.block hu
  · split
    · exact K.engineFault counted (by simpa) _ _
    · split
      · next room => exact K.degrade counted (by simpa) (by simpa [State.hasRoom] using room) _ _
      · exact K.block hu

/-! ### Closes -/

theorem emitClose (h : P s) (run : (s.ch c).state = .inMessage) {e : ScopeEntry}
    (room : e.closeEmits = true → s.hasRoom c 4 = true) : P (s.emitClose c e) := by
  simp only [State.emitClose]
  have handed : e.closeEmits = true → P (s.hand c endRecord) := fun emits =>
    K.hand s c endRecord h run (Nat.le_of_ble_eq_true rfl) (room emits)
  split
  · next d =>
    exact K.setCh (handed (by simp [ScopeEntry.closeEmits, d]))
      ⟨rfl, rfl, rfl, rfl, rfl, .inl ⟨rfl, rfl⟩, fun ok => ⟨ok.stats, ok.consumed, ok.timers⟩⟩
  · next d => exact handed (by simp [ScopeEntry.closeEmits, d])
  · exact h

theorem countClose (h : P s) (e : ScopeEntry) : P (s.countClose c e) := by
  simp only [State.countClose]
  split
  · exact K.count h _ _ _
  · exact h

theorem finishClose (h : P s) (parses : s.Parses c) {e : ScopeEntry}
    (room : (s.ch c).accountClose e ≠ none → e.closeEmits = true → s.hasRoom c 4 = true) : P (s.finishClose c e) := by
  simp only [State.finishClose]
  split
  · exact K.engineFault h parses.1 _ _
  · next x charged =>
    have edit := Channel.Edits.of_accountClose charged
    have boundary : x.Edits { x with parse := .header [] } := .of_parse rfl
    have push : x.pendingPush = none := by
      rcases edit.stack with ⟨-, same⟩ | ⟨-, -, same | gone⟩
      · exact same.trans parses.2
      · exact same.trans parses.2
      · exact gone
    have closing : (s.setCh c { x with parse := .header [] }).Parses c := by
      simpa [State.Parses, push] using edit.state.trans parses.1
    refine K.finishStep ⟨h, parses.1⟩ (K.countClose (K.emitClose (K.setCh h (edit.trans boundary)) closing.1
      fun emits => ?_) e) (closing.closed e)
    simpa [State.hasRoom, edit.started] using room (by simp [charged]) emits

theorem closeInnermost {u : State} (hu : P u) (h : P s) (parses : s.Parses c) : P (u.closeInnermost s c) := by
  obtain ⟨run, push⟩ := parses
  simp only [State.closeInnermost]
  split
  · exact h
  · next e inner =>
    have popped : P (s.modCh c fun ch => { ch with resident := ch.resident.dropLast, parse := .header [] }) :=
      K.setCh h (.of_drop (push := (s.ch c).pendingPush) run (List.dropLast_sublist _) (.inl rfl) rfl)
    have parses : (s.modCh c fun ch => { ch with resident := ch.resident.dropLast, parse := .header [] }).Parses c := by
      simp [State.Parses, run, push]
    split
    · next empty =>
      obtain ⟨empty, deep⟩ := Bool.and_eq_true_iff.1 empty
      simp only [State.raiseFill]
      split
      · exact K.endTurn (K.fills _ c e popped parses.1 parses.2 (by simpa using empty) (by simpa using deep)
          ⟨s, h, .inl (List.mem_of_getLast? inner)⟩)
      · exact K.engineFault popped parses.1 _ _
    · split
      · exact K.block hu
      · next room =>
        refine K.finishClose popped parses fun _ emits => ?_
        simpa [emits, State.hasRoom] using room

/-! ### Headers -/

theorem handle {u : State} (hu : P u) (h : P s) (parses : s.Parses c) (hd : Header) (x : Handling) (looked : Bool)
    (i : Option (Fin 256)) : P (u.handle s c hd x looked i) := by
  cases x with
  | bulk emit copy skip =>
    simp only [State.handle]
    split
    · exact K.block hu
    · next room =>
      have emitted : P ((s.count i 1 hd.countedSize).emitHeader c emit) := by
        refine K.emitHeader (K.count h _ _ _) (by simpa using parses.1) ?_
        cases emit with
        | none => exact .inl rfl
        | some _ => exact .inr (by simpa [State.hasRoom] using room)
      refine K.finishStep ⟨h, parses.1⟩ (K.setCh (K.setCh emitted (.of_account _))
        (.of_parse (ParsePos.payload_isClosePending _ _))) ⟨?_, ?_⟩
      · simpa [State.accountChild] using parses.1
      · simpa [State.accountChild] using parses.2
  | scope d emit => exact K.openScope hu h parses rfl _ _

theorem dispose {u : State} (hu : P u) (h : P s) (parses : s.Parses c) (hd : Header) : P (u.dispose s c hd) := by
  simp only [State.dispose, State.judge]
  split
  · exact K.handle hu h parses _ _ _ _
  · split <;> exact K.handle hu h parses _ _ _ _

theorem takeEnd {u : State} (hu : P u) (h : P s) (parses : s.Parses c) : P (u.takeEnd s c) := by
  simp only [State.takeEnd]
  split
  · exact K.engineFault h parses.1 _ _
  · split
    · exact K.closeInnermost hu h parses
    · exact K.engineFault h parses.1 _ _

theorem deductParent (h : P s) (parses : s.Parses c) {hd : Header} {t : State} (ht : s.deductParent c hd = some t) :
    P t ∧ t.Parses c := by
  simp only [State.deductParent] at ht
  split at ht
  · cases ht
    exact ⟨h, parses⟩
  · split at ht
    · cases ht
    · cases ht
      refine ⟨K.setCh h (.of_modInnermost _ fun _ ok => ok), ?_⟩
      simpa [State.Parses] using parses

theorem takeHeader {u : State} (hu : P u) (h : P s) (parses : s.Parses c) (hd : Header) : P (u.takeHeader s c hd) := by
  simp only [State.takeHeader]
  split
  · exact K.engineFault h parses.1 _ _
  · split
    · exact K.takeEnd hu h parses
    · split
      · exact K.engineFault h parses.1 _ _
      · next t ht =>
        obtain ⟨h, parses⟩ := K.deductParent h parses ht
        exact K.dispose hu h parses hd

theorem setRest (h : P s) {u v : InUse} (inUse : (s.rxOf c).inUse = some u) (rest : List Byte) :
    P (s.setRest c v rest) := K.setInUse h _ (by simp [inUse])

theorem setParse (h : P s) {p : ParsePos} (hp : p.isClosePending = false) : P (s.setParse c p) :=
  K.setCh h (.of_parse hp)

theorem headerStep (h : P s) (parses : s.Parses c) : P (s.headerStep c) := by
  have keeps : ∀ (u : InUse) rest p, (s.setRest c u rest).setParse c p |>.Parses c := by
    intro u rest p
    simpa [State.Parses, State.setRest, State.setParse] using parses
  simp only [State.headerStep]
  split
  · next u got inUse _ =>
    split
    · exact K.finishStep ⟨h, parses.1⟩ (K.setParse (K.setRest h inUse _) rfl) (keeps _ _ _)
    · split
      · exact h
      · exact K.takeHeader (K.setParse (K.setRest h inUse _) rfl) (K.setParse (K.setRest h inUse _) rfl)
          (keeps _ _ _) _
  all_goals exact h

/-! ### Payload -/

/-- A COPY run hands its bytes one at a time, each with room (R53). -/
theorem copyRun (n : Nat) (bs : List Byte) (h : P s) (run : (s.ch c).state = .inMessage) :
    P ((s.setTx c (copyRun (s.txOf c) (s.ch c).outputStarted n bs).tx).modCh c fun ch =>
      { ch with outputStarted := (copyRun (s.txOf c) (s.ch c).outputStarted n bs).started }) := by
  have stays : ∀ s, P s → P ((s.setTx c (s.txOf c)).modCh c fun ch => { ch with outputStarted := (s.ch c).outputStarted }) := by
    intro s h
    change P ((s.setTx c (s.txOf c)).setCh c (s.ch c))
    simpa using h
  induction n generalizing s bs with
  | zero => exact stays s h
  | succ n ih =>
    cases bs with
    | nil => exact stays s h
    | cons b bs =>
      simp only [Machine.copyRun]
      split
      · next room =>
        have handed := K.hand s c [b] h run (by simp) room
        have goesOn := ih bs handed (by simpa using run)
        simpa [State.hand] using goesOn
      · exact stays s h

theorem payloadStep (h : P s) (parses : s.Parses c) : P (s.payloadStep c) := by
  simp only [State.payloadStep]
  split
  · exact h
  · next u inUse =>
    split
    · next n skip _ =>
      have copied := K.setParse (c := c) (p := .payload (Machine.copyRun (s.txOf c) (s.ch c).outputStarted n u.rest).count skip)
        (K.setRest (v := u) (K.copyRun n u.rest h parses.1) (by simpa using inUse)
          (Machine.copyRun (s.txOf c) (s.ch c).outputStarted n u.rest).rest) (ParsePos.payload_isClosePending _ _)
      simp only [State.setRest, State.setParse, State.modCh_eq, State.modRx_eq] at copied ⊢
      split
      · refine K.block ?_
        simpa using copied
      · refine K.finishStep ⟨h, parses.1⟩ (by simpa using copied) ?_
        simpa [State.Parses] using parses
    · refine K.finishStep ⟨h, parses.1⟩ (K.setParse (K.setRest h inUse _) (ParsePos.payload_isClosePending _ _)) ?_
      simpa [State.Parses, State.setRest, State.setParse] using parses
    all_goals exact h

/-! ### The other steps -/

theorem resumeClose (h : P s) (parses : s.Parses c) : P (s.resumeClose c) := by
  simp only [State.resumeClose]
  split
  · next e _ =>
    split
    · exact K.block h
    · next room =>
      refine K.finishClose h parses fun charged emits => ?_
      simpa [Option.isSome_iff_ne_none.2 charged, emits] using room
  all_goals exact h

/-- The refusal of a job is kept where handing the refusal to the push that waits is: the other outcome is a fault. -/
theorem refuseJob (h : P s) (release : ∀ (t : State) (d : ChannelNo) (p : PendingPush), P t →
      (t.ch d).state = .spillWait → (t.ch d).pendingPush = some p →
      P (t.modCh d fun ch => { ch with state := .inMessage, pendingPush := some { p with refused := true } }))
    (j : Job) : P (s.refuseJob j) := by
  simp only [State.refuseJob]
  split
  · next waits =>
    split
    · exact h
    · next p push =>
      split
      · exact release s j.channel p h waits push
      · exact K.fault h (by rw [waits]; rfl) _ _ _
  · next waits => exact K.fault h (by rw [waits]; rfl) _ _ _
  all_goals exact h

end KeptByOps
end Sys2Proof.Machine
end

section
/-! PROOFS. A property that the events' operations keep is kept by every event that can fall between the takings of
RESTART. -/

namespace Sys2Proof.Machine

/-- What a channel's next step says about the channel (R36, R38). -/
theorem engineStep_cases {ch : Channel} {r : RxChannel} {k : EngineStep} (h : engineStep ch r = some k) :
    (k = .awaitTake ∧ ch.state = .await) ∨
    (ch.state = .inMessage ∧ ∃ p, ch.pendingPush = some p ∧ k = if p.refused then .degradePush else .carryOutPush) ∨
    (ch.state = .inMessage ∧ ch.pendingPush = none ∧ k ≠ .awaitTake ∧ k ≠ .degradePush ∧ k ≠ .carryOutPush) := by
  simp only [engineStep] at h
  split at h
  · next await =>
    split at h
    · cases h
    · cases h; exact .inl ⟨rfl, await⟩
  · next run =>
    split at h
    · cases h
    · split at h
      · next p push => cases h; exact .inr (.inl ⟨run, p, push, rfl⟩)
      · next none =>
        refine .inr (.inr ⟨run, none, ?_⟩)
        repeat' split at h
        all_goals cases h
        all_goals simp
  all_goals cases h

/-- What a step due for the channel served says about it. -/
theorem State.due_cases {s : State} {k : EngineStep} {c : ChannelNo} (h : s.servedFor k = some c) :
    s.isData c = true ∧ engineStep (s.ch c) (s.rxOf c) = some k := by
  have due := ((s.servedFor_iff k c).1 h).2
  simp only [State.stepFor] at due
  split at due
  · next data => exact ⟨data, due⟩
  · cases due

/-- Refusing a job changes a channel only where it waits for one, or faults it. -/
theorem State.answerReset_eq (s : State) (c : ChannelNo) : ∃ u r, s.answerReset c =
    { s with mgmt := { s.mgmt with unit := u, response := r } } ∧ (u = s.mgmt.unit ∨ u = .responding) := by
  simp only [State.answerReset]
  split
  · split
    · exact ⟨_, _, rfl, .inr rfl⟩
    · exact ⟨_, _, rfl, .inl rfl⟩
  all_goals exact ⟨_, _, rfl, .inl rfl⟩

/-- A response formed, or the unit left as it is, keeps the unit's counts. -/
theorem MgmtUnit.Edits.of_response (m : MgmtUnit) {u : UnitState} (r : Option (List Byte))
    (hu : u = m.unit ∨ ∀ x, u ≠ .executing (.ready x)) : m.Edits { m with unit := u, response := r } := by
  refine ⟨.inl rfl, fun ok => ⟨ok.credits, ok.notices, ok.timer, ok.collected, ok.arguments.1, fun x hx => ?_,
    ok.arguments.2.2⟩⟩
  rcases hu with rfl | no
  · exact ok.arguments.2.1 x hx
  · exact absurd hx (no x)

/-- The Management Unit at Upstream link down keeps its counts in their ranges (R138). -/
theorem MgmtUnit.Edits.of_upstreamDown (m : MgmtUnit) : m.Edits m.upstreamDown := by
  refine ⟨.inl rfl, fun ok => ⟨Nat.zero_le _, ⟨ok.notices.1, ?_⟩, ok.timer, by simp [MgmtUnit.upstreamDown,
    Collector.empty], by simp [MgmtUnit.upstreamDown, Collector.empty, CommandRecord.empty, CommandRecord.ArgsOk],
    fun r hr => ok.arguments.2.1 r ?_, by simp [MgmtUnit.upstreamDown, Collector.empty]⟩⟩
  · simp only [MgmtUnit.upstreamDown]
    have within : ∀ b : Bool, (if b then satAdd 255 m.lost 1 else m.lost) ≤ 255 := by
      intro b
      cases b
      · exact ok.notices.2
      · exact satAdd_le _ _ _
    exact within _
  · simp only [MgmtUnit.upstreamDown] at hr
    split at hr
    · cases hr
    · exact hr

/-- A slot that frees leaves the buffer within its slots; an ordinary one may be taken by the flush-pending bytes (R136). -/
theorem TxChannel.Edits.of_freeHead (t : TxChannel) : t.Edits t.freeHead := by
  simp only [TxChannel.freeHead]
  split
  · exact .refl t
  · next g gs egress =>
    have fewer : gs.Sublist t.egress := egress ▸ List.sublist_cons_self g gs
    have ordinary : (gs.filter fun g => !g.terminal).length ≤ t.ordinaryCount := (fewer.filter _).length_le
    have terminal := fewer.filter EgressSegment.terminal
    have dropped : t.Edits { t with egress := gs } :=
      ⟨fun ⟨seven, one, few⟩ => ⟨ordinary.trans seven, terminal.length_le.trans one, few⟩, fun none => by
        rw [TxChannel.terminalWaiting_eq_false_iff] at none ⊢
        exact List.sublist_nil.1 (none ▸ terminal), id⟩
    split
    · next flushes =>
      have ordinaryHead : g.terminal = false := by simp only [Bool.and_eq_true, Bool.not_eq_true'] at flushes; exact flushes.1.1
      have counted : t.ordinaryCount = (gs.filter fun g => !g.terminal).length + 1 := by
        simp [TxChannel.ordinaryCount, egress, ordinaryHead]
      have closes : ∀ x : TxChannel, x.ordinaryCount + 1 ≤ 7 → x.Edits x.closePending := fun x few =>
        .of_closePending (by simpa [TxChannel.ordinaryFree] using few)
      refine ⟨fun fits => ?_, ?_, dropped.credits⟩
      · refine (closes { t with egress := gs } ?_).fits (dropped.fits fits)
        exact counted ▸ fits.1
      · intro none
        have := dropped.terminal none
        rw [TxChannel.terminalWaiting_eq_false_iff] at this ⊢
        exact (TxChannel.terminal_placeOrdinary { t with egress := gs } _).trans this
    · exact dropped

/-- Bytes spell a number below 256 to the power of their count. -/
theorem bytesNum_lt (bs : List Byte) : bytesNum bs < 256 ^ bs.length := by
  have fold : ∀ (bs : List Byte) (n : Nat),
      bs.foldl (fun n b => 256 * n + b.toNat) n < (n + 1) * 256 ^ bs.length := by
    intro bs
    induction bs with
    | nil => intro n; simp
    | cons b bs ih =>
      intro n
      refine (ih _).trans_le ?_
      rw [List.length_cons, pow_succ, ← mul_assoc, mul_right_comm]
      have step : 256 * n + b.toNat + 1 ≤ (n + 1) * 256 := by have := b.isLt; omega
      exact Nat.mul_le_mul_right _ step
  simpa [bytesNum] using fold bs 0

/-- A verified entry's consumed count is in its range (R93). -/
theorem ScopeEntry.consumed_of_verify {c : ChannelNo} {slot : Nat} {bs : List Byte} {e : ScopeEntry}
    (h : ScopeEntry.verify c slot bs = some e) : e.consumed ≤ 16777215 := by
  simp only [ScopeEntry.verify] at h
  split at h
  · next b0 b1 b2 b3 b4 b5 b6 check =>
    have three : bytesNum [b4, b5, b6] < 16777216 := by simpa using bytesNum_lt [b4, b5, b6]
    split at h
    · simp only [ScopeEntry.ofFields] at h
      split at h
      · cases h
      · split at h
        · cases h
        · cases h
          exact Nat.le_of_lt_succ three
    · cases h
  · cases h

/-- A good fill gives as many entries as it asks for, each in range (R93). -/
theorem verifyAll_ok {c : ChannelNo} {k slot : Nat} {bs : List Byte} {es : List ScopeEntry}
    (h : verifyAll c k slot bs = some es) : es.length = k ∧ ∀ e ∈ es, e.consumed ≤ 16777215 := by
  induction k generalizing slot bs es with
  | zero => cases h; simp
  | succ k ih =>
    simp only [verifyAll] at h
    split at h
    · next e es first later =>
      cases h
      obtain ⟨length, range⟩ := ih later
      exact ⟨by simp [length], List.forall_mem_cons.2 ⟨ScopeEntry.consumed_of_verify first, range⟩⟩
    · cases h

theorem SpillPort.nextJob_mem {p : SpillPort} {j : Job} (h : p.nextJob = some j) : j ∈ p.queue := by
  simp only [SpillPort.nextJob] at h
  split at h
  · next k first => cases h; exact List.mem_of_find?_eq_some first
  · exact List.mem_of_mem_head? h

/-- An edit of the port that leaves its jobs alone. -/
theorem SpillPort.Edits.of_jobs {p x : SpillPort} (queue : x.queue = p.queue) (flying : x.flying ⊆ p.flying)
    (once : x.flying.Sublist p.flying) (failures : p.failures ≤ 2 → x.failures ≤ 2) : p.Edits x :=
  ⟨queue ▸ List.Subset.refl _, fun _ h => List.mem_append_left _ (flying h),
    queue ▸ (once.append_right _).subperm, failures⟩

/-- A fold of operations that each keep a property keeps it. -/
theorem State.foldl_keeps {α : Type} {P : State → Prop} {f : State → α → State} (hf : ∀ t a, P t → P (f t a)) (l : List α)
    {s : State} (h : P s) : P (l.foldl f s) := by
  induction l generalizing s with
  | nil => exact h
  | cons a l ih => exact ih (hf s a h)

namespace KeptByEvents
variable {P : State → Prop} (K : KeptByEvents P) {s : State} {c : ChannelNo}
include K

/-! ### The engine's steps -/

theorem engineDo (h : P s) {k : EngineStep} {f : State → ChannelNo → State}
    (hf : ∀ t c, P t → t.isData c = true → engineStep (t.ch c) (t.rxOf c) = some k → P (f t c)) :
    P (s.engineDo k f) := by
  cases due : s.servedFor k with
  | none => rwa [s.engineDo_none k f due]
  | some c =>
    obtain ⟨data, step⟩ := State.due_cases due
    simp only [State.engineDo, due]
    have same : (s.beginStep c).ch = s.ch ∧ (s.beginStep c).rxOf = s.rxOf ∧ (s.beginStep c).isData = s.isData := by
      simp only [State.beginStep]
      split <;> exact ⟨rfl, rfl, rfl⟩
    obtain ⟨ch, rx, isData⟩ := same
    refine hf _ c (K.beginStep h) (isData ▸ data) ?_
    rw [ch, rx, step]

/-- A step in a message that neither pushes nor takes a segment in AWAIT. -/
theorem engineDo_parses (h : P s) {k : EngineStep} {f : State → ChannelNo → State}
    (hk : k ≠ .awaitTake ∧ k ≠ .degradePush ∧ k ≠ .carryOutPush) (hf : ∀ t c, P t → t.Parses c → P (f t c)) :
    P (s.engineDo k f) := by
  refine K.engineDo h fun t c h data step => hf t c h ?_
  rcases engineStep_cases step with ⟨await, -⟩ | ⟨-, p, -, push⟩ | ⟨run, none, -⟩
  · exact absurd await hk.1
  · split at push
    · exact absurd push hk.2.1
    · exact absurd push hk.2.2
  · exact ⟨run, none⟩

theorem execAwaitTakeSegment (h : P s) : P (s.carriedOut (execAwaitTakeSegment s)) := by
  refine K.engineDo h fun t c h data step => K.awaitTake h ?_ data
  rcases engineStep_cases step with ⟨-, await⟩ | ⟨-, p, -, push⟩ | ⟨-, -, no, -⟩
  · exact await
  · split at push <;> cases push
  · exact absurd rfl no

theorem execTakeSegmentFlags (h : P s) : P (s.carriedOut (execTakeSegmentFlags s)) :=
  K.engineDo_parses h (by decide) fun _ _ => K.takeFlags

theorem execCompleteHeader (h : P s) : P (s.carriedOut (execCompleteHeader s)) :=
  K.engineDo_parses h (by decide) fun _ _ => K.headerStep

theorem execTakePayloadRun (h : P s) : P (s.carriedOut (execTakePayloadRun s)) :=
  K.engineDo_parses h (by decide) fun _ _ => K.payloadStep

theorem execBeginClose (h : P s) : P (s.carriedOut (execBeginClose s)) :=
  K.engineDo_parses h (by decide) fun _ _ h => K.closeInnermost h h

theorem execCompleteClose (h : P s) : P (s.carriedOut (execCompleteClose s)) :=
  K.engineDo_parses h (by decide) fun _ _ => K.resumeClose

/-- A step in a message that pushes the pending push or degrades it. -/
theorem engineDo_push (h : P s) {k : EngineStep} {f : State → ChannelNo → State} {refused : Bool}
    (hk : k = if refused then .degradePush else .carryOutPush)
    (hf : ∀ t c p, P t → (t.ch c).state = .inMessage → (t.ch c).pendingPush = some p → p.refused = refused → P (f t c)) :
    P (s.engineDo k f) := by
  refine K.engineDo h fun t c h data step => ?_
  rcases engineStep_cases step with ⟨await, -⟩ | ⟨run, p, push, kind⟩ | ⟨-, -, -, no, no'⟩
  · cases refused <;> simp [hk] at await
  · refine hf t c p h run push ?_
    cases hp : p.refused <;> cases refused <;> simp_all
  · cases refused <;> simp [hk] at no no'

theorem execCarryOutPendingPush (h : P s) : P (s.carriedOut (execCarryOutPendingPush s)) := by
  refine K.engineDo_push (refused := false) h rfl fun t c p h run push fresh => ?_
  simp only [State.pushStep, push]
  split
  · next room => exact K.push h run room (.inr ⟨push, fresh⟩)
  · exact K.block h

theorem execDegradePendingPush (h : P s) : P (s.carriedOut (execDegradePendingPush s)) := by
  refine K.engineDo_push (refused := true) h rfl fun t c p h run push _ => ?_
  simp only [State.degradeStep, push]
  split
  · next room => exact K.degrade h run room p _
  · exact K.block h

/-! ### The links -/

theorem faultLinks (h : P s) (a : Bool) (who : Channel → Bool) : P (s.faultLinks a who) := by
  refine State.foldl_keeps (fun t c h => ?_) _ h
  simp only [State.faultLink]
  split
  · next due => exact K.fault h (Bool.and_eq_true_iff.1 (Bool.and_eq_true_iff.1 due).1).2 _ _ _
  · exact h

theorem mapCh {f : ChannelNo → Channel → Channel} (h : P s) (e : ∀ c, (s.ch c).Edits (f c (s.ch c))) :
    P (s.mapCh f) :=
  K.channels s _ h fun c => by simpa using e c

theorem mapRx {f : ChannelNo → RxChannel → RxChannel} (h : P s)
    (e : ∀ c, (f c (s.rxOf c)).slots ≤ max 4 (s.rxOf c).slots) : P (s.mapRx f) :=
  K.receivers s _ h fun c => by simpa using e c

theorem mapTx {f : ChannelNo → TxChannel → TxChannel} (h : P s) (e : ∀ c, (s.txOf c).Edits (f c (s.txOf c))) :
    P (s.mapTx f) :=
  K.transmitters s _ h fun c => by simpa using e c

theorem execUpstreamLinkDown (h : P s) : P (s.carriedOut (execUpstreamLinkDown s)) := by
  simp only [Machine.execUpstreamLinkDown]
  split
  · exact h
  · have down := K.wires s .down s.dnPort s.pointer s.turn s.dnPointer s.dnSending h
    have emptied := K.mapRx (f := fun _ r => { r with credit := 0, ingress := [] }) down fun c => by
      simp only [RxChannel.slots, RxChannel.occupied, List.length_nil]
      omega
    refine K.settleTurn (K.unit _ _ (K.setInUse (K.faultLinks emptied _ _) none (by simp)) ?_)
    exact .of_upstreamDown _

theorem execDownstreamLinkDown (h : P s) : P (s.carriedOut (execDownstreamLinkDown s)) := by
  simp only [Machine.execDownstreamLinkDown]
  split
  · exact h
  · have down := K.wires s s.upPort .down s.pointer s.turn s.dnPointer none h
    refine K.settleTurn (K.faultLinks (K.mapTx (K.mapCh down fun c => ?_) fun c => ?_) _ _)
    · split
      · exact ⟨rfl, rfl, rfl, rfl, rfl, .inl ⟨rfl, rfl⟩, fun ok => ⟨ok.stats, ok.consumed, ok.timers⟩⟩
      · exact .refl _
    · exact ⟨fun ⟨_, _, few⟩ => ⟨Nat.zero_le _, Nat.zero_le _, few⟩, fun _ => rfl, fun _ => Nat.zero_le _⟩

theorem execSegmentReceived (h : P s) (u : List Byte) : P (s.carriedOut (execSegmentReceived u s)) := by
  simp only [Machine.execSegmentReceived]
  split
  · exact h
  · split
    · next e _ =>
      refine K.errors s _ h fun ok => ?_
      cases e
      · exact ⟨satAdd_le _ _ _, ok.2⟩
      · exact ⟨ok.1, satAdd_le _ _ _, ok.2.2⟩
    · next g _ =>
      simp only [State.takeSegment, State.carriedOut_next]
      split
      · exact K.errors s _ h fun ok => ⟨ok.1, ok.2.1, satAdd_le _ _ _⟩
      · next credit =>
        have some : (s.rxOf g.channel).credit ≠ 0 := by simpa using credit
        split
        · rw [State.modRx_eq, State.modRx_eq, State.setRx_setRx]
          refine K.setRx h (le_trans ?_ (Nat.le_max_right _ _))
          simp only [State.setRx_rxOf, if_true, RxChannel.accept, RxChannel.slots, RxChannel.occupied,
            List.length_append, List.length_singleton]
          omega
        · refine K.setRx h (le_trans ?_ (Nat.le_max_right _ _))
          simp only [RxChannel.slots, RxChannel.occupied]
          omega

theorem execDownstreamSegmentSent (h : P s) : P (s.carriedOut (execDownstreamSegmentSent s)) := by
  simp only [Machine.execDownstreamSegmentSent]
  split
  · exact h
  · next d _ =>
    refine K.wires _ s.upPort s.dnPort s.pointer s.turn s.dnPointer none (K.setCh (K.setTx (c := d.channel) h ?_)
      ⟨rfl, rfl, rfl, rfl, rfl, .inl ⟨rfl, rfl⟩, fun ok => ⟨ok.stats, ok.consumed, ok.timers⟩⟩)
    exact .of_freeHead _

/-! ### Timers -/

theorem execTimebaseTick (h : P s) : P (s.carriedOut (execTimebaseTick s)) := by
  have ticked : P (s.mapCh fun c ch =>
      if s.isData c && stallRuns ch (s.rxOf c) then { ch with stallTimer := ch.stallTimer - 1 } else ch) := by
    refine K.mapCh h fun c => ?_
    split
    · exact ⟨rfl, rfl, rfl, rfl, rfl, .inl ⟨rfl, rfl⟩, fun ok => ⟨ok.stats, ok.consumed, ok.timers.1,
        (Nat.sub_le _ _).trans ok.timers.2⟩⟩
    · exact .refl _
  simp only [Machine.execTimebaseTick, State.tick, State.carriedOut_next]
  split
  · refine K.unit _ _ ticked ⟨.inl rfl, fun ok => ⟨ok.credits, ok.notices, ⟨ok.timer.1, ?_⟩, ok.collected, ok.arguments⟩⟩
    exact (Nat.sub_le _ _).trans ok.timer.2
  · exact ticked

theorem execStall (h : P s) (c : ChannelNo) : P (s.carriedOut (execStall c s)) := by
  simp only [Machine.execStall]
  split
  · next due =>
    refine K.fault h ?_ _ _ _
    simp only [State.stallDue, stallRuns, Bool.and_eq_true, beq_iff_eq] at due
    rw [due.1.2.1.1.1.1.1.1]
    rfl
  · exact h

/-! ### The Spill Port -/

theorem execTakeJob (h : P s) : P (s.carriedOut (execTakeJob s)) := by
  simp only [Machine.execTakeJob]
  split
  · exact h
  · next idle =>
    have flying : s.spill.flying = [] := by simp [SpillPort.flying, idle]
    split
    · exact h
    · split
      · exact K.port s _ h (.of_jobs rfl (List.nil_subset _) (List.nil_sublist _) id)
      · split
        · exact h
        · next j next =>
          have mem := SpillPort.nextJob_mem next
          refine K.port s _ h ⟨List.erase_subset, ?_, ?_, id⟩
          · simpa [SpillPort.flying] using .inr mem
          · rw [flying]
            exact (List.perm_cons_erase mem).symm.subperm

theorem freeWires (h : P s) : P s.freeWires :=
  K.port s _ h (.of_jobs rfl (List.nil_subset _) (List.nil_sublist _) id)

theorem answerReset (h : P s) (c : ChannelNo) : P (s.answerReset c) := by
  obtain ⟨u, r, eq, hu⟩ := s.answerReset_eq c
  rw [eq]
  exact K.unit s _ h (.of_response _ _ (hu.imp id (by rintro rfl; nofun)))

theorem leaveDrain (h : P s) (idle : s.spill.inFlight = none) (drain : (s.ch c).state = .drain) : P (s.leaveDrain c) :=
  K.answerReset (K.drained s c h idle drain) c

theorem noticeBacking (h : P s) : P s.noticeBacking := K.queueNotice h _

/-- Registers of the port change. -/
theorem modPort (h : P s) {f : SpillPort → SpillPort} (queue : (f s.spill).queue = s.spill.queue)
    (flight : (f s.spill).inFlight = s.spill.inFlight) (failures : s.spill.failures ≤ 2 → (f s.spill).failures ≤ 2) :
    P (s.modSpill f) := by
  have flying : (f s.spill).flying = s.spill.flying := by simp only [SpillPort.flying, flight]
  exact K.port s _ h (.of_jobs queue (flying ▸ List.Subset.refl _) (flying ▸ List.Sublist.refl _) failures)

theorem enterLost (h : P s) : P s.enterLost := by
  refine K.refused _ (K.noticeBacking (K.mapCh (K.modPort h rfl rfl id) fun c => ?_))
  split
  · exact ⟨rfl, rfl, rfl, rfl, rfl, .inl ⟨rfl, rfl⟩, fun ok => ⟨ok.stats, ok.consumed, ok.timers⟩⟩
  · exact .refl _

theorem execSpillCompletion (h : P s) : P (s.carriedOut (execSpillCompletion s)) := by
  simp only [Machine.execSpillCompletion]
  split
  · next c k n p flies =>
    simp only [State.spillDone, State.carriedOut_next]
    split
    · next waits => exact K.spilled s _ p h flies waits
    · next drain => exact K.leaveDrain (K.freeWires h) rfl drain
    all_goals exact K.freeWires h
  all_goals exact h

theorem fillDone (h : P s) {j : Job} {p : SelectPeriod} (flies : s.spill.inFlight = some (.data j p))
    (read : List Byte) : P (s.freeWires.fillDone j read) := by
  have freed := K.freeWires h
  simp only [State.fillDone]
  split
  · next waits =>
    split
    · next es good =>
      obtain ⟨length, range⟩ := verifyAll_ok good
      have filled := K.filled s j p es h flies waits length range
      simp only [State.goodFill]
      split
      · exact K.noticeBacking (K.modPort filled rfl rfl fun _ => Nat.zero_le _)
      · exact K.modPort filled rfl rfl fun _ => Nat.zero_le _
    · have faulted := K.modPort (f := fun p => { p with failures := min 2 (p.failures + 1) })
        (K.fault freed (by rw [waits]; rfl) .fillCheck .none true) rfl rfl fun _ => Nat.min_le_left _ _
      simp only [State.badFill]
      split
      · exact K.noticeBacking (K.modPort faulted rfl rfl id)
      · exact K.enterLost faulted
      all_goals exact faulted
  · next drain => exact K.leaveDrain freed rfl drain
  all_goals exact freed

theorem execFillCompletion (h : P s) (sdi : List Bool) : P (s.carriedOut (execFillCompletion sdi s)) := by
  simp only [Machine.execFillCompletion]
  split
  · next flies =>
    split
    · exact K.fillDone h flies _
    · exact h
  all_goals exact h

/-- Every event that can fall between the takings of RESTART keeps the property (R172). -/
theorem takeDuring (h : P s) (e : RestartEvent) : P (s.takeDuring e) := by
  cases e
  case timebaseTick => exact K.execTimebaseTick h
  case stall c => exact K.execStall h c
  case awaitTakeSegment => exact K.execAwaitTakeSegment h
  case takeSegmentFlags => exact K.execTakeSegmentFlags h
  case completeHeader => exact K.execCompleteHeader h
  case takePayloadRun => exact K.execTakePayloadRun h
  case beginClose => exact K.execBeginClose h
  case completeClose => exact K.execCompleteClose h
  case carryOutPendingPush => exact K.execCarryOutPendingPush h
  case degradePendingPush => exact K.execDegradePendingPush h
  case takeJob => exact K.execTakeJob h
  case spillCompletion => exact K.execSpillCompletion h
  case fillCompletion sdi => exact K.execFillCompletion h sdi
  case upstreamLinkDown => exact K.execUpstreamLinkDown h
  case downstreamLinkDown => exact K.execDownstreamLinkDown h
  case segmentReceived unit => exact K.execSegmentReceived h unit
  case downstreamSegmentSent => exact K.execDownstreamSegmentSent h

end KeptByEvents
end Sys2Proof.Machine
end

section
/-! PROOFS. A property that the operations keep is kept by every command but a power-on reset, and by every step. -/

namespace Sys2Proof.Machine

/-! ### The collector (R143) -/

/-- The scopes' counts, the arguments recorded and the one being collected are in their ranges. -/
structure Collector.CountsOk (c : Collector) : Prop where
  scopes : ∀ sc ∈ c.scopes, sc.consumed ≤ 16777215
  args : c.command.ArgsOk
  pos : ∀ t left v, c.pos = .argument t left v → 0 < left ∧ argLength t = some (left + v.length)

theorem MgmtUnit.CountsOk.collector {m : MgmtUnit} (ok : m.CountsOk) : m.collector.CountsOk :=
  ⟨ok.collected, ok.arguments.1, ok.arguments.2.2⟩

theorem Collector.CountsOk.empty : Collector.empty.CountsOk :=
  ⟨by simp [Collector.empty], by simp [Collector.empty, CommandRecord.empty, CommandRecord.ArgsOk],
    by simp [Collector.empty]⟩

/-- What a byte leaves is in range where the collector was. -/
def Collected.CountsOk : Collected → Prop
  | .more c | .complete c => c.CountsOk
  | .faulted .. => True

theorem argLength_pos {t : RecType} {n : Nat} (h : argLength t = some n) : 0 < n := by
  simp only [argLength, argTable, List.lookup_eq_some_iff] at h
  obtain ⟨l, k, table, -⟩ := h
  have mem : (t, n) ∈ argTable := by rw [argTable, table]; simp
  have all : ∀ x ∈ argTable, 0 < x.2 := by decide
  exact all _ mem

namespace Collector.CountsOk
variable {c : Collector} (ok : c.CountsOk)
include ok

theorem boundary : c.boundary.CountsOk := by
  simp only [Collector.boundary]
  split
  · exact ⟨by simp, ok.args, by simp⟩
  · exact ⟨ok.scopes, ok.args, by simp⟩

theorem skipPayload (n : Nat) : (c.skipPayload n).CountsOk := by
  simp only [Collector.skipPayload]
  split
  · exact ok.boundary
  · exact ⟨ok.scopes, ok.args, by simp⟩

theorem modCommand {f : CommandRecord → CommandRecord} (h : (f c.command).ArgsOk) : (c.modCommand f).CountsOk :=
  ⟨ok.scopes, h, ok.pos⟩

theorem topHeader (h : Header) : (c.topHeader h).CountsOk := by
  have noArgs : ∀ b code, CommandRecord.ArgsOk { CommandRecord.empty with isContainer := b, code := code } := by
    intro b code a mem
    cases mem
  simp only [Collector.topHeader]
  split
  · exact boundary ⟨by simp, noArgs _ _, ok.pos⟩
  · split
    · exact ⟨ok.scopes, noArgs _ _, by simp⟩
    · exact ⟨ok.scopes, noArgs _ _, by simp⟩

theorem argumentHeader (h : Header) : (c.argumentHeader h).CountsOk := by
  simp only [Collector.argumentHeader]
  split
  · split
    · exact skipPayload (ok.modCommand ok.args) _
    · next n length =>
      split
      · refine ⟨ok.scopes, ok.args, fun t left v pos => ?_⟩
        cases pos
        exact ⟨argLength_pos length, length⟩
      · exact skipPayload (ok.modCommand ok.args) _
  · split
    · exact ⟨List.forall_mem_cons.2 ⟨Nat.zero_le _, ok.scopes⟩, ok.args, by simp⟩
    · exact skipPayload (ok.modCommand ok.args) _

theorem nestedHeader (h : Header) : (c.nestedHeader h).CountsOk := by
  simp only [Collector.nestedHeader]
  split
  · trivial
  · exact ok.skipPayload _

theorem endHeader : c.endHeader.CountsOk := by
  simp only [Collector.endHeader]
  split
  · trivial
  · next sc outer scopes =>
    split
    · trivial
    · split
      · exact ⟨by simp, ok.args, by simp⟩
      · split
        · trivial
        · refine boundary ⟨List.forall_mem_cons.2 ⟨satAdd_le _ _ _, fun x mem => ok.scopes x ?_⟩, ok.args, ok.pos⟩
          simp_all

theorem deduct {h : Header} {d : Collector} (hd : c.deduct h = some d) : d.CountsOk := by
  simp only [Collector.deduct] at hd
  split at hd
  · cases hd; exact ok
  · next sc outer scopes =>
    split at hd
    · cases hd
    · cases hd
      exact ⟨List.forall_mem_cons.2 ⟨satAdd_le _ _ _, fun x mem => ok.scopes x (by simp [scopes, mem])⟩, ok.args, ok.pos⟩

theorem header (h : Header) : (c.header h).CountsOk := by
  simp only [Collector.header]
  split
  · trivial
  · split
    · exact ok.endHeader
    · split
      · trivial
      · next d hd =>
        have ok := ok.deduct hd
        split
        · exact ok.topHeader h
        · exact ok.argumentHeader h
        · exact ok.nestedHeader h

theorem byte (b : Byte) : (c.byte b).CountsOk := by
  simp only [Collector.byte]
  split
  · split
    · exact ⟨ok.scopes, ok.args, by simp⟩
    · exact ok.header _
  · next t left v pos =>
    obtain ⟨left_pos, length⟩ := ok.pos t left v pos
    split
    · next last =>
      refine boundary (ok.modCommand ?_)
      simp only [CommandRecord.record]
      split
      · exact ok.args
      · intro a mem
        rcases List.mem_append.1 mem with mem | mem
        · exact ok.args a mem
        · obtain rfl := List.mem_singleton.1 mem
          rw [length, List.length_append, List.length_singleton]
          congr 1
          omega
    · refine ⟨ok.scopes, ok.args, fun t' left' v' pos => ?_⟩
      cases pos
      rw [length, List.length_append, List.length_singleton]
      exact ⟨by omega, congrArg some (by omega)⟩
  · split
    · exact ok.boundary
    · exact ⟨ok.scopes, ok.args, by simp⟩
  · split
    · exact ⟨ok.scopes, ok.args, by simp⟩
    · exact ⟨ok.scopes, ok.args, by simp⟩

omit ok in
theorem run (ok : c.CountsOk) (bs : List Byte) : (c.run bs).1.CountsOk := by
  induction bs generalizing c with
  | nil => exact ok
  | cons b bs ih =>
    have next := ok.byte b
    simp only [Collector.run]
    split
    · next d h => exact ih (h ▸ next : (Collected.more d).CountsOk)
    · next d h => exact (h ▸ next : (Collected.complete d).CountsOk)
    · trivial

end Collector.CountsOk

/-! ### Edits of the Management Unit -/

theorem MgmtUnit.Edits.trans {m x y : MgmtUnit} (h : m.Edits x) (k : x.Edits y) : m.Edits y :=
  ⟨k.phase.elim (fun e => e ▸ h.phase) .inr, k.counts ∘ h.counts⟩

/-- The unit takes another state and collector. -/
theorem MgmtUnit.Edits.of_collector (m : MgmtUnit) {u : UnitState} {o : Bool} {c : Collector}
    (hc : m.CountsOk → c.CountsOk) (hu : ∀ r, u = .executing (.ready r) → m.CountsOk → r.ArgsOk) :
    m.Edits { m with unit := u, messageOpen := o, collector := c } :=
  ⟨.inl rfl, fun ok => ⟨ok.credits, ok.notices, ok.timer, (hc ok).scopes, (hc ok).args, fun r hr => hu r hr ok,
    (hc ok).pos⟩⟩

/-- The unit takes another state, in which it holds no completed record. -/
theorem MgmtUnit.Edits.of_unit (m : MgmtUnit) {u : UnitState} (hu : ∀ r, u ≠ .executing (.ready r)) :
    m.Edits { m with unit := u } :=
  .of_response m m.response (.inr hu)

theorem MgmtUnit.Edits.of_loadStall (m : MgmtUnit) : m.Edits m.loadStall :=
  ⟨.inl rfl, fun ok => ⟨ok.credits, ok.notices, ⟨ok.timer.1, ok.timer.1⟩, ok.collected, ok.arguments⟩⟩

/-- A segment of a return-path message spends a credit (R137). -/
theorem State.sendReturn_edits (s : State) (som : Bool) (k : ReturnKind) (bytes : List Byte) :
    s.mgmt.Edits (s.sendReturn som k bytes).mgmt :=
  ⟨.inl rfl, fun ok => ⟨(Nat.sub_le _ _).trans ok.credits, ok.notices, ok.timer, ok.collected, ok.arguments⟩⟩

theorem State.returnBegin_edits (s : State) : s.mgmt.Edits s.returnBegin.mgmt := by
  simp only [State.returnBegin, State.beginReturn]
  split
  · split
    · exact s.sendReturn_edits _ _ _
    · split
      · exact .refl _
      · next n ns notices =>
        have fewer : ns.length ≤ s.mgmt.notices.length := by simp [notices]
        have popped : s.mgmt.Edits { s.mgmt with notices := ns } :=
          ⟨.inl rfl, fun ok => ⟨ok.credits, ⟨fewer.trans ok.notices.1, ok.notices.2⟩, ok.timer, ok.collected,
            ok.arguments⟩⟩
        exact popped.trans (State.sendReturn_edits (s.modMgmt fun m => { m with notices := ns }) _ _ _)
  · exact .refl _

/-- A STALL_RELOAD argument is a number of two bytes. -/
theorem CommandRecord.ArgsOk.stallReload_le {r : CommandRecord} (ok : r.ArgsOk) {v : Nat}
    (h : r.value Leaf.stallReload = some v) : v ≤ 65535 := by
  obtain ⟨a, mem, type, rfl⟩ := r.exists_arg_of_value h
  have length : some 2 = some a.value.length := (type ▸ ok a mem : argLength Leaf.stallReload = _)
  have two := bytesNum_lt a.value
  rw [← Option.some.inj length] at two
  exact Nat.le_of_lt_succ two

/-! ### Banks (R104, R105) -/

theorem PolicyEntry.keyBefore_iff (e : PolicyEntry) (set : Fin 8) (type : RecType) :
    e.keyBefore set type = true ↔ e.set < set ∨ (e.set = set ∧ e.type.toNat < type.toNat) := by
  simp [PolicyEntry.keyBefore, BitVec.lt_def]

/-- In a list in order, the elements that a downward closed test accepts are those of its beginning. -/
theorem takeWhile_eq_filter_of_pairwise {α : Type} {R : α → α → Prop} {p : α → Bool}
    (down : ∀ a b, R a b → p b = true → p a = true) {l : List α} (h : l.Pairwise R) :
    l.takeWhile p = l.filter p ∧ l.dropWhile p = l.filter fun a => !p a := by
  induction l with
  | nil => simp
  | cons a l ih =>
    obtain ⟨after, h⟩ := List.pairwise_cons.1 h
    obtain ⟨take, drop⟩ := ih h
    cases ha : p a with
    | true => simp [ha, take, drop]
    | false =>
      have none : ∀ b ∈ l, p b = false := fun b mem =>
        Bool.eq_false_iff.2 fun hb => Bool.false_ne_true (ha.symm.trans (down a b (after b mem) hb))
      have some : ∀ b ∈ l, (!p b) = true := fun b mem => by rw [none b mem]; rfl
      rw [List.takeWhile_cons_of_neg (by simp [ha]), List.dropWhile_cons_of_neg (by simp [ha]),
        List.filter_cons_of_neg (by simp [ha]), List.filter_cons_of_pos (by simp [ha]), List.filter_eq_self.2 some,
        List.filter_eq_nil_iff.2 fun b mem => by simp [none b mem]]
      exact ⟨rfl, rfl⟩

/-- The position of a key splits a bank in order into the entries before it and the others (R105). -/
theorem Bank.Ordered.split {b : Bank} (h : b.Ordered) (set : Fin 8) (type : RecType) :
    b.entries.take (b.position set type) = b.entries.filter (fun e => e.keyBefore set type) ∧
      b.entries.drop (b.position set type) = b.entries.filter fun e => !e.keyBefore set type := by
  have cut := takeWhile_eq_filter_of_pairwise (p := fun e => e.keyBefore set type) (fun e f lt before => by
    rw [PolicyEntry.keyBefore_iff] at before ⊢
    simp only [Fin.lt_def, Fin.ext_iff] at *
    omega) h.2
  have whole := List.takeWhile_append_dropWhile (p := fun e : PolicyEntry => e.keyBefore set type) (l := b.entries)
  rw [← cut.1, ← cut.2]
  constructor
  · conv_lhs => rw [← whole]
    exact List.take_left
  · conv_lhs => rw [← whole]
    exact List.drop_left

/-- An entry with a new key keeps a bank in order (R105, R109). -/
theorem Bank.Ordered.insert {b : Bank} (h : b.Ordered) {e : PolicyEntry} (absent : b.find e.set e.type = none)
    (room : b.entries.length < 1024) : (b.insert e).Ordered := by
  have new : ∀ f ∈ b.entries, ¬(f.set = e.set ∧ f.type = e.type) := by
    simpa [Bank.find, PolicyEntry.hasKey] using absent
  obtain ⟨take, drop⟩ := h.split e.set e.type
  refine ⟨?_, ?_⟩
  · simp only [Bank.insert, List.length_append, List.length_cons, List.length_take, List.length_drop]
    omega
  · simp only [Bank.insert, take, drop, List.pairwise_append, List.pairwise_cons]
    refine ⟨h.2.filter _, ⟨fun f mem => ?_, h.2.filter _⟩, fun f mem g later => ?_⟩
    · obtain ⟨mem, notBefore⟩ := List.mem_filter.1 mem
      have notBefore : ¬ f.keyBefore e.set e.type = true := by simpa using notBefore
      have new := new f mem
      rw [PolicyEntry.keyBefore_iff] at notBefore
      simp only [Fin.lt_def, Fin.ext_iff, BitVec.toNat_eq] at *
      omega
    · obtain ⟨-, before⟩ := List.mem_filter.1 mem
      rw [PolicyEntry.keyBefore_iff] at before
      rcases List.mem_cons.1 later with rfl | later
      · exact before
      · obtain ⟨-, notBefore⟩ := List.mem_filter.1 later
        have notBefore : ¬ g.keyBefore e.set e.type = true := by simpa using notBefore
        rw [PolicyEntry.keyBefore_iff] at notBefore
        simp only [Fin.lt_def, Fin.ext_iff] at *
        omega

theorem Bank.Ordered.delete {b : Bank} (h : b.Ordered) (set : Fin 8) (type : RecType) : (b.delete set type).Ordered :=
  ⟨(List.length_filter_le _ _).trans h.1, h.2.filter _⟩

end Sys2Proof.Machine
end

section
/-! PROOFS. A property that the operations keep is kept by every command but a power-on reset, and by every step. -/

namespace Sys2Proof.Machine

/-- Where the lane can grant, the credit fills the buffer's slots and no more (R132). -/
theorem State.grantDue_slots (s : State) (c : ChannelNo) :
    ({ s.rxOf c with credit := (s.rxOf c).credit + s.grantDue c } : RxChannel).slots ≤ max 4 (s.rxOf c).slots := by
  simp only [RxChannel.slots, State.grantDue, RxChannel.occupied]
  split <;> omega

theorem State.readyRecord_eq_some_iff (s : State) {r : CommandRecord} :
    s.readyRecord = some r ↔ s.mgmt.unit = .executing (.ready r) := by
  simp only [State.readyRecord]
  split <;> simp_all

/-- The unit holds the record of a command exactly when it holds a completed container of its code. -/
theorem State.readyFor_eq_some_iff (s : State) {code : RecType} {r : CommandRecord} : s.readyFor code = some r ↔
    s.mgmt.unit = .executing (.ready r) ∧ r.isContainer = true ∧ r.code = code := by
  simp only [State.readyFor, ← s.readyRecord_eq_some_iff]
  cases s.readyRecord with
  | none => simp
  | some x =>
    by_cases same : (x.isContainer && x.code == code) = true
    · simp only [same, if_true, Option.some.injEq, iff_self_and]
      rintro rfl
      simpa using same
    · simp only [same, Bool.false_eq_true, if_false, reduceCtorEq, Option.some.injEq, false_iff, not_and]
      rintro rfl container code
      simp [container, code] at same

namespace KeptByEvents
variable {P : State → Prop} (K : KeptByEvents P) {s : State} {c : ChannelNo}
include K

/-! ### Links and the return path -/

theorem execUpstreamLinkUp (h : P s) : P (s.carriedOut (execUpstreamLinkUp s)) := by
  simp only [Machine.execUpstreamLinkUp]
  split
  · exact h
  · have up := K.wires s .up s.dnPort s.pointer s.turn s.dnPointer s.dnSending h
    exact K.unit _ _ (K.mapRx (f := fun _ r => { r with unsync := true }) up fun c => Nat.le_max_right _ _)
      ⟨.inl rfl, fun ok => ⟨ok.credits, ok.notices, ok.timer, ok.collected, ok.arguments⟩⟩

theorem execDownstreamLinkUp (h : P s) : P (s.carriedOut (execDownstreamLinkUp s)) := by
  simp only [Machine.execDownstreamLinkUp]
  split
  · exact h
  · have up := K.wires s s.upPort .up s.pointer s.turn s.dnPointer s.dnSending h
    exact K.mapTx (f := fun _ t => { t with seq := 0 }) up fun c => ⟨id, id, id⟩

theorem execCreditWordReceived (h : P s) (p : Port) (u : List Byte) :
    P (s.carriedOut (execCreditWordReceived p u s)) := by
  simp only [Machine.execCreditWordReceived]
  split
  · exact h
  · split
    · next e _ =>
      refine K.errors s _ h fun ok => ?_
      cases e
      · exact ⟨satAdd_le _ _ _, ok.2⟩
      · exact ⟨ok.1, satAdd_le _ _ _, ok.2.2⟩
    · cases p
      · exact K.unit s _ h ⟨.inl rfl, fun ok => ⟨satAdd_le _ _ _, ok.notices, ok.timer, ok.collected, ok.arguments⟩⟩
      · exact K.setTx h ⟨id, id, fun _ => satAdd_le _ _ _⟩

theorem execCreditWordGrant (h : P s) : P (s.carriedOut (execCreditWordGrant s)) := by
  simp only [Machine.execCreditWordGrant]
  split
  · split
    · exact h
    · next c _ =>
      have sent := K.unit s { s.mgmt with returnUnit := some (.creditWord (encodeCredit c (s.grantDue c))) } h
        ⟨.inl rfl, fun ok => ⟨ok.credits, ok.notices, ok.timer, ok.collected, ok.arguments⟩⟩
      exact K.setRx sent (s.grantDue_slots c)
  · exact h

theorem execDownstreamSegmentSend (h : P s) : P (s.carriedOut (execDownstreamSegmentSend s)) := by
  simp only [Machine.execDownstreamSegmentSend]
  split
  · exact h
  · next c _ =>
    simp only [State.sendHead, State.carriedOut_next]
    split
    · exact h
    · exact K.wires _ s.upPort s.dnPort s.pointer s.turn c _
        (K.setTx (c := c) h ⟨id, id, fun few => (Nat.sub_le _ _).trans few⟩)

theorem returnBegin (h : P s) : P s.returnBegin := by
  rw [s.returnBegin_mgmt_only]
  exact K.unit s _ h s.returnBegin_edits

theorem execReturnSegmentSend (h : P s) : P (s.carriedOut (execReturnSegmentSend s)) := by
  simp only [Machine.execReturnSegmentSend]
  split
  · exact h
  · split
    · exact K.unit s _ h (s.sendReturn_edits _ _ _)
    · exact h

/-! ### The management stream -/

theorem structuralFault (h : P s) (k : FaultKind) (r : Reason) (n : Nat) : P (s.structuralFault k r n) := by
  have closed := K.unit s { s.mgmt with unit := .idle, messageOpen := false, collector := Collector.empty } h
    (.of_collector _ (fun _ => .empty) nofun)
  exact K.queueNotice (K.setInUse closed none (by simp)) _

theorem closeMgmtMessage (h : P s) : P s.closeMgmtMessage :=
  K.unit s _ h (.of_collector _ (fun _ => .empty) nofun)

theorem finishMgmtSegment (h : P s) : P s.finishMgmtSegment := by
  have freed : P (s.modRx s.straps.mgmtSel fun x => { x with inUse := none }) := K.setInUse h none (by simp)
  simp only [State.finishMgmtSegment]
  split
  · exact h
  · split
    · exact h
    · split
      · exact freed
      · split
        · exact K.closeMgmtMessage freed
        · exact K.structuralFault h _ _ _

theorem execResponseSent (h : P s) : P (s.carriedOut (execResponseSent s)) := by
  simp only [Machine.execResponseSent]
  split
  · have none : ∀ r, (if s.mgmt.messageOpen then UnitState.collecting else .idle) ≠ .executing (.ready r) := by
      intro r
      split <;> nofun
    have settled := K.unit s { s.mgmt with
        returnMsg := .none, response := .none, unit := if s.mgmt.messageOpen then .collecting else .idle } h
      ⟨.inl rfl, fun ok => ⟨ok.credits, ok.notices, ok.timer, ok.collected, ok.arguments.1,
        fun r hr => absurd hr (none r), ok.arguments.2.2⟩⟩
    simp only [State.responseSent, State.carriedOut_next]
    split
    · exact K.finishMgmtSegment settled
    · exact settled
  all_goals exact h

theorem execNoticeSent (h : P s) : P (s.carriedOut (execNoticeSent s)) := by
  simp only [Machine.execNoticeSent]
  split
  · exact K.unit s _ h ⟨.inl rfl, fun ok => ⟨ok.credits, ⟨ok.notices.1, (Nat.sub_le _ _).trans ok.notices.2⟩, ok.timer,
      ok.collected, ok.arguments⟩⟩
  all_goals exact h

theorem execMgmtStallExpiry (h : P s) : P (s.carriedOut (execMgmtStallExpiry s)) := by
  simp only [Machine.execMgmtStallExpiry]
  split
  · exact K.structuralFault h _ _ _
  · exact h

theorem execMgmtParseBytes (h : P s) : P (s.carriedOut (execMgmtParseBytes s)) := by
  simp only [Machine.execMgmtParseBytes]
  split
  · next u _ inUse =>
    have taken : ∀ rest, P (s.setMgmtRest u rest) := fun rest => K.setInUse h _ (by simp [inUse])
    have ran : s.mgmt.CountsOk → (s.mgmt.collector.run u.rest).1.CountsOk := fun ok => ok.collector.run _
    simp only [State.parseMgmt, State.carriedOut_next]
    split
    · next c rest run =>
      rw [run] at ran
      exact K.finishMgmtSegment (K.unit _ _ (taken rest)
        (.of_collector s.mgmt ran fun r hr ok => ok.arguments.2.1 r hr))
    · next c rest run =>
      rw [run] at ran
      have args : s.mgmt.CountsOk → c.command.ArgsOk := fun ok => (ran ok : c.CountsOk).args
      refine K.unit _ _ (taken rest) (.of_collector s.mgmt (fun ok => ⟨(ran ok).scopes, by simp [CommandRecord.empty,
        CommandRecord.ArgsOk], (ran ok).pos⟩) fun r hr ok => ?_)
      cases hr
      exact args ok
    · exact K.structuralFault h _ _ _
  all_goals exact h

theorem execMgmtTakeSegment (h : P s) : P (s.carriedOut (execMgmtTakeSegment s)) := by
  simp only [Machine.execMgmtTakeSegment]
  split
  · next g gs idle waits =>
    have popped : ∀ (t : State) (u : Option InUse), P t → t.rxOf s.straps.mgmtSel = s.rxOf s.straps.mgmtSel →
        P (t.modRx s.straps.mgmtSel fun r => { r with ingress := gs, inUse := u }) := by
      intro t u ht same
      refine K.setRx ht (le_trans ?_ (Nat.le_max_right _ _))
      simp only [RxChannel.slots, RxChannel.occupied, same, waits, List.length_cons]
      split <;> omega
    have dropped : ∀ t : State, P t → t.rxOf s.straps.mgmtSel = s.rxOf s.straps.mgmtSel →
        P (t.modRx s.straps.mgmtSel fun r => { r with ingress := gs }) := fun t ht same =>
      popped t (t.rxOf s.straps.mgmtSel).inUse ht same
    split
    · simp only [State.takeIdle, State.carriedOut_next]
      split
      · exact K.unit _ _ (popped s _ h rfl) ((MgmtUnit.Edits.of_loadStall _).trans
          (.of_collector _ (fun _ => .empty) nofun))
      · exact dropped s h rfl
    · have loaded : P (s.modMgmt MgmtUnit.loadStall) := K.unit s _ h (.of_loadStall _)
      simp only [State.takeCollecting, State.carriedOut_next]
      split
      · exact K.structuralFault loaded _ _ _
      · split
        · exact K.closeMgmtMessage (dropped _ loaded rfl)
        · split
          · exact K.structuralFault loaded _ _ _
          · exact popped _ _ loaded rfl
    all_goals exact h
  all_goals exact h

/-! ### Commands that leave channels and banks alone -/

theorem respond (h : P s) (t : RecType) (tag : Option (List Byte)) (e : Completion) (l : List Byte) :
    P (s.respond t tag e l) :=
  K.unit s _ h (.of_response _ _ (.inr nofun))

theorem answer (h : P s) (r : CommandRecord) (e : Completion) (l : List Byte) : P (s.answer r e l) :=
  K.respond h _ _ _ _

/-- A management command keeps the property where its own rule does for a record that passes the checks. -/
theorem runCommand (h : P s) {code : RecType} {required optional : List RecType} {body : State → CommandRecord → State}
    (hb : ∀ r, s.mgmt.unit = .executing (.ready r) → r.check required optional = none → P (body s r)) :
    P (s.carriedOut (s.runCommand code required optional body)) := by
  simp only [State.runCommand]
  split
  · exact h
  · next r ready =>
    obtain ⟨holds, -⟩ := s.readyFor_eq_some_iff.1 ready
    split
    · exact K.answer h _ _ _
    · next passes => exact hb r holds passes

end KeptByEvents
end Sys2Proof.Machine
end

section
/-! PROOFS. A property that the operations keep is kept by the commands on channels and banks, and so by every command but a
power-on reset and by every step. -/

namespace Sys2Proof.Machine

/-- The part opens (R170). -/
theorem MgmtUnit.Edits.of_operating (m : MgmtUnit) : m.Edits { m with phase := .operating } :=
  ⟨.inr rfl, fun ok => ⟨ok.credits, ok.notices, ok.timer, ok.collected, ok.arguments⟩⟩

namespace KeptByCommands
variable {P : State → Prop} (K : KeptByCommands P) {s : State} {c : ChannelNo} {r : CommandRecord}
include K

/-! ### Channels enabled, disabled, opened and reset -/

/-- A data channel without a message takes another such state. -/
theorem rest (h : P s) {x : ChannelState} (data : s.isData c = true) (old : (s.ch c).state ∈ [.held, .await, .disabled])
    (new : x ∈ [.held, .await, .disabled]) (phase : x = .await → s.mgmt.phase = .operating) :
    P (s.modCh c fun ch => { ch with state := x }) := by
  refine K.rests s _ h fun d => ?_
  change (s.setCh c _).ch d = s.ch d ∨ _ ∧ ∃ y, (s.setCh c _).ch d = _ ∧ _
  rw [State.setCh_ch]
  split
  · next same => subst same; exact .inr ⟨data, x, rfl, old, new, phase⟩
  · exact .inl rfl

theorem mapRest {f : ChannelNo → Channel → Channel} (h : P s) (hf : ∀ c, f c (s.ch c) = s.ch c ∨
    (s.isData c = true ∧ ∃ x, f c (s.ch c) = { s.ch c with state := x } ∧ (s.ch c).state ∈ [.held, .await, .disabled] ∧
      x ∈ [.held, .await, .disabled] ∧ (x = .await → s.mgmt.phase = .operating))) : P (s.mapCh f) :=
  K.rests s _ h fun c => by simpa using hf c

theorem openPart (h : P s) (tag : Option (List Byte)) : P (s.openPart tag) := by
  have phase := K.unit s _ h (.of_operating s.mgmt)
  refine K.respond (K.mapRx (K.mapRest phase fun c => ?_) fun c => ?_) _ _ _ _
  · split
    · next opens =>
      simp only [Bool.and_eq_true, beq_iff_eq] at opens
      have held : (s.ch c).state ∈ [ChannelState.held, .await, .disabled] := opens.2 ▸ by simp
      exact .inr ⟨opens.1.1, .await, rfl, held, by simp, fun _ => rfl⟩
    · exact .inl rfl
  · split <;> exact Nat.le_max_right _ _

theorem emptyIngress (h : P s) : P (s.emptyIngress c) := by
  refine K.setRx h (le_trans ?_ (Nat.le_max_right _ _))
  simp only [RxChannel.slots, RxChannel.occupied, List.length_nil]
  omega

/-- The drain exit is of no account for the property. -/
theorem setDrainExit (h : P s) (x : DrainExit) : P (s.modCh c fun ch => { ch with drainExit := x }) :=
  K.setCh h ⟨rfl, rfl, rfl, rfl, rfl, .inl ⟨rfl, rfl⟩, fun ok => ⟨ok.stats, ok.consumed, ok.timers⟩⟩

theorem disable (h : P s) (data : s.isData c = true) : P (s.disable c) := by
  have emptied : P (s.emptyIngress c) := K.emptyIngress h
  simp only [State.disable]
  split
  · next held => exact K.rest emptied data (held ▸ by simp : (s.ch c).state ∈ _) (by simp) nofun
  · next await => exact K.rest emptied data (await ▸ by simp : (s.ch c).state ∈ _) (by simp) nofun
  · next run => exact K.unwind _ c _ _ emptied (run ▸ rfl : (s.ch c).state.messageOpen = true)
  · next run => exact K.unwind _ c _ _ emptied (run ▸ rfl : (s.ch c).state.messageOpen = true)
  · next run => exact K.unwind _ c _ _ emptied (run ▸ rfl : (s.ch c).state.messageOpen = true)
  · exact K.setDrainExit emptied _
  · exact emptied

theorem enable (h : P s) (data : s.isData c = true) : P (s.enable c) := by
  simp only [State.enable]
  split
  · next disabled =>
    have off : (s.ch c).state ∈ [ChannelState.held, .await, .disabled] := disabled ▸ by simp
    split
    · exact K.rest h data off (by simp) nofun
    · next operating =>
      exact K.setRx (K.rest h data off (by simp) fun _ => operating) (Nat.le_max_right _ _)
  · exact K.setDrainExit h _
  all_goals exact h

theorem channelSet (h : P s) {required optional : List RecType} (unit : s.mgmt.unit = .executing (.ready r))
    (check : r.check required optional = none)
    (reload : ∀ v, r.value Leaf.stallReload = some v → s.mgmt.CountsOk → v ≤ 65535) : P (s.channelSet r) := by
  simp only [State.channelSet]
  split
  · exact K.answer h _ _ _
  · split
    · exact K.answer h _ _ _
    · next unlocked =>
      split
      · next data =>
        have unlocked : s.mgmt.phase = .operating → r.setsLocked = false := by
          intro operating
          simpa [operating] using unlocked
        have configured := K.configures s r required optional h unit check data unlocked
        refine K.answer ?_ _ _ _
        simp only [State.setChannel, State.applyEnabled]
        split
        · exact K.settleTurn (K.disable configured data)
        · split
          · exact K.enable configured data
          · exact configured
      · refine K.answer (K.unit s { s.mgmt with stallReload := (r.value Leaf.stallReload).getD s.mgmt.stallReload } h
          ⟨.inl rfl, fun ok => ⟨ok.credits, ok.notices, ⟨?_, ok.timer.2⟩, ok.collected, ok.arguments⟩⟩) _ _ _
        cases given : r.value Leaf.stallReload with
        | none => exact ok.timer.1
        | some v => exact reload v given ok

theorem channelReset (h : P s) : P (s.channelReset r) := by
  simp only [State.channelReset]
  split
  · exact K.answer h _ _ _
  · have reset : P (s.resetChannel r.channel) := by
      simp only [State.resetChannel]
      have clears : ∀ t, P t → P ((((t.emptyIngress r.channel).modCh r.channel Channel.clearRecord).modRx r.channel
          fun x => { x with unsync := true }).settleTurn) := fun t h =>
        K.settleTurn (K.setRx (K.setCh (K.emptyIngress h) ⟨rfl, rfl, rfl, rfl, rfl, .inl ⟨rfl, rfl⟩,
          fun ok => ⟨⟨Nat.zero_le _, Nat.zero_le _, Nat.zero_le _, Nat.zero_le _⟩, ok.consumed, ok.timers⟩⟩)
          (Nat.le_max_right _ _))
      split
      · next isOpen => exact clears _ (K.unwind s _ _ _ h isOpen)
      · exact clears _ h
    split
    · exact K.unit _ _ reset (.of_unit _ nofun)
    · exact K.answer reset _ _ _

/-! ### The Policy Store -/

theorem editStaged (h : P s) (ready : s.policy.staging = .ready) {b : Bank} (refs : b.refs = s.policy.staged.refs)
    (ordered : s.policy.staged.Ordered → b.Ordered) : P (s.modPolicy fun p => p.setStaged b) :=
  K.policy s _ h (.stage ready b refs ordered)

theorem policyInsert (h : P s) : P (s.policyInsert r) := by
  simp only [State.policyInsert]
  split
  · exact K.answer h _ _ _
  · next a _ =>
    split
    · exact K.answer h _ _ _
    · next ready =>
      split
      · exact K.answer h _ _ _
      · next absent =>
        split
        · exact K.answer h _ _ _
        · next room =>
          refine K.answer (K.editStaged (b := s.policy.staged.insert (r.entry a)) h (by simpa using ready) rfl
            fun ordered => ordered.insert ?_ (Nat.not_le.1 room)) _ _ _
          simpa [CommandRecord.entry] using absent

theorem policyDelete (h : P s) : P (s.policyDelete r) := by
  simp only [State.policyDelete]
  split
  · exact K.answer h _ _ _
  · next ready =>
    split
    · exact K.answer h _ _ _
    · exact K.answer (K.editStaged (b := s.policy.staged.delete r.setArg r.typeArg) h (by simpa using ready) rfl
        fun ordered => ordered.delete _ _) _ _ _

theorem policyRead (h : P s) : P (s.policyRead r) := by
  simp only [State.policyRead]
  split
  · exact K.answer h _ _ _
  · split <;> exact K.answer h _ _ _

theorem defaultSet (h : P s) : P (s.defaultSet r) := by
  simp only [State.defaultSet]
  split
  · exact K.answer h _ _ _
  · next a _ =>
    split
    · exact K.answer h _ _ _
    · next ready =>
      exact K.answer (K.editStaged
        (b := { s.policy.staged with defaults := s.policy.staged.defaults.set r.setArg a }) h (by simpa using ready) rfl
        id) _ _ _

theorem commitRoles (h : P s) : P (s.commitRoles r) := by
  simp only [State.commitRoles]
  split
  · exact K.answer h _ _ _
  · next ready => exact K.answer (K.policy s _ h (.commit (by simpa using ready))) _ _ _

theorem execCopyCompletion (h : P s) : P (s.carriedOut (execCopyCompletion s)) := by
  simp only [Machine.execCopyCompletion]
  split
  · next copying => exact K.queueNotice (K.policy s _ h (.copied copying)) _
  all_goals exact h

/-! ### Counters, backing and the part -/

theorem countersRead (h : P s) : P (s.countersRead r) := by
  simp only [State.countersRead]
  split
  · exact K.answer h _ _ _
  · exact K.unit s _ h (.of_unit _ nofun)

theorem execPairRead (h : P s) : P (s.carriedOut (execPairRead s)) := by
  simp only [Machine.execPairRead]
  split
  · next tag next left clear leaves _ =>
    have cleared : P (if clear then
        { s with counters := s.counters.set (Fin.ofNat 256 next) { records := 0, bytes := 0 } } else s) := by
      split
      · refine K.counters s _ h fun ok i => ?_
        simp only [Fin.getElem_fin, Vector.getElem_set]
        split
        · exact ⟨Nat.zero_le _, Nat.zero_le _⟩
        · exact ok i
      · exact h
    simp only [State.readPair, State.carriedOut_next]
    split
    · exact K.respond cleared _ _ _ _
    · exact K.unit _ _ cleared (.of_unit _ nofun)
  all_goals exact h

theorem requestProbe (h : P s) {e : Executing} (he : ∀ r, e ≠ .ready r) : P (s.requestProbe e) :=
  K.unit _ _ (K.modPort (f := fun p => { p with pendingProbe := true }) h rfl rfl id)
    (.of_unit _ fun r hr => he r (UnitState.executing.inj hr))

theorem backingRestore (h : P s) : P (s.backingRestore r) := by
  simp only [State.backingRestore]
  split
  · exact K.requestProbe h nofun
  · exact K.answer h _ _ _

theorem provisionClose (h : P s) : P (s.provisionClose r) := by
  have allocated : P s.allocateWindows := K.mapCh h fun c =>
    ⟨rfl, rfl, rfl, rfl, rfl, .inl ⟨rfl, rfl⟩, fun ok => ⟨ok.stats, ok.consumed, ok.timers⟩⟩
  simp only [State.provisionClose]
  split
  · exact K.answer h _ _ _
  · split
    · exact K.answer h _ _ _
    · split
      · exact K.requestProbe allocated nofun
      · exact K.openPart allocated _

theorem answerProbe (h : P s) : P s.answerProbe := by
  simp only [State.answerProbe]
  split
  · exact K.respond (K.returnBegin h) _ _ _ _
  · exact K.openPart (K.returnBegin h) _
  all_goals exact h

theorem execProbeCompletion (h : P s) (sdi : List Bool) : P (s.carriedOut (execProbeCompletion sdi s)) := by
  have freed : ∀ t, P t → P (t.modSpill fun p => { p with inFlight := none, pendingProbe := false }) := fun t h =>
    K.port t _ h (.of_jobs rfl (List.nil_subset _) (List.nil_sublist _) id)
  have passed : P s.probePassed := by
    have ready := K.modPort (f := fun p => { p with backing := .ready, failures := 0 }) h rfl rfl fun _ => Nat.zero_le _
    simp only [State.probePassed]
    split
    · exact ready
    · exact K.noticeBacking ready
  have failed : P s.probeFailed := by
    simp only [State.probeFailed]
    split
    · exact h
    · exact K.enterLost h
  simp only [Machine.execProbeCompletion]
  split
  · split
    · refine K.answerProbe (freed _ ?_)
      split
      · exact passed
      · exact failed
    · exact h
  all_goals exact h

theorem status (h : P s) : P (s.status r) := by
  simp only [State.status]
  split
  · exact K.errors _ _ (K.answer h _ _ _) fun _ => ⟨Nat.zero_le _, Nat.zero_le _, Nat.zero_le _⟩
  · exact K.answer h _ _ _

theorem execUnknownCommand (h : P s) : P (s.carriedOut (execUnknownCommand s)) := by
  simp only [Machine.execUnknownCommand]
  split
  · exact h
  · split
    · exact K.respond h _ _ _ _
    · exact h

/-! ### Every command and every step -/

/-- Every command but a power-on reset keeps the property. -/
theorem exec (h : P s) (i : Instr) (hi : ∀ straps, i ≠ .powerOnReset straps) : P (s.carriedOut (exec i s)) := by
  cases i
  case powerOnReset straps => exact absurd rfl (hi straps)
  case upstreamLinkDown => exact K.execUpstreamLinkDown h
  case upstreamLinkUp => exact K.execUpstreamLinkUp h
  case downstreamLinkDown => exact K.execDownstreamLinkDown h
  case downstreamLinkUp => exact K.execDownstreamLinkUp h
  case segmentReceived u => exact K.execSegmentReceived h u
  case downstreamSegmentDiscard u => exact h
  case creditWordReceived p u => exact K.execCreditWordReceived h p u
  case creditWordGrant => exact K.execCreditWordGrant h
  case timebaseTick => exact K.execTimebaseTick h
  case stall c => exact K.execStall h c
  case mgmtStallExpiry => exact K.execMgmtStallExpiry h
  case awaitTakeSegment => exact K.execAwaitTakeSegment h
  case takeSegmentFlags => exact K.execTakeSegmentFlags h
  case completeHeader => exact K.execCompleteHeader h
  case takePayloadRun => exact K.execTakePayloadRun h
  case beginClose => exact K.execBeginClose h
  case completeClose => exact K.execCompleteClose h
  case carryOutPendingPush => exact K.execCarryOutPendingPush h
  case degradePendingPush => exact K.execDegradePendingPush h
  case takeJob => exact K.execTakeJob h
  case spillCompletion => exact K.execSpillCompletion h
  case fillCompletion sdi => exact K.execFillCompletion h sdi
  case probeCompletion sdi => exact K.execProbeCompletion h sdi
  case downstreamSegmentSend => exact K.execDownstreamSegmentSend h
  case downstreamSegmentSent => exact K.execDownstreamSegmentSent h
  case returnMessageBegin => exact K.returnBegin h
  case returnSegmentSend => exact K.execReturnSegmentSend h
  case responseSent => exact K.execResponseSent h
  case noticeSent => exact K.execNoticeSent h
  case mgmtTakeSegment => exact K.execMgmtTakeSegment h
  case mgmtParseBytes => exact K.execMgmtParseBytes h
  case unknownCommand => exact K.execUnknownCommand h
  case identify => exact K.runCommand (body := fun s r => s.answer r .ok s.identifyLeaves) h fun r _ _ => K.answer h _ _ _
  case status => exact K.runCommand h fun r _ _ => K.status h
  case channelSet =>
    exact K.runCommand h fun r unit check => K.channelSet h unit check fun v given ok =>
      (ok.arguments.2.1 r unit).stallReload_le given
  case channelGet =>
    exact K.runCommand (body := fun s r => s.answer r .ok (s.channelLeaves r.channel)) h fun r _ _ => K.answer h _ _ _
  case channelReset => exact K.runCommand h fun r _ _ => K.channelReset h
  case policyInsert => exact K.runCommand h fun r _ _ => K.policyInsert h
  case policyDelete => exact K.runCommand h fun r _ _ => K.policyDelete h
  case policyRead => exact K.runCommand h fun r _ _ => K.policyRead h
  case defaultSet => exact K.runCommand h fun r _ _ => K.defaultSet h
  case commit => exact K.runCommand h fun r _ _ => K.commitRoles h
  case countersRead => exact K.runCommand h fun r _ _ => K.countersRead h
  case pairRead => exact K.execPairRead h
  case backingRestore => exact K.runCommand h fun r _ _ => K.backingRestore h
  case provisionClose => exact K.runCommand h fun r _ _ => K.provisionClose h
  case restart => exact K.runCommand h fun r _ _ => K.restart s r h
  case copyCompletion => exact K.execCopyCompletion h

/-- A property that holds after a power-on reset too, and does not depend on the queue, is kept by every step. -/
theorem step {t : State} (reset : ∀ straps (s : State), P { State.powerOn straps with
      pending := s.pending, duringRestart := s.duringRestart })
    (queue : ∀ (s : State) l, P s → P { s with pending := l }) (h : step s = .next t) (hs : P s) : P t := by
  simp only [Machine.step] at h
  split at h
  · cases h
    exact hs
  · next i l _ =>
    have kept : P ((s.carriedOut (Machine.exec i { s with pending := l }))) := by
      by_cases power : ∃ straps, i = .powerOnReset straps
      · obtain ⟨straps, rfl⟩ := power
        exact reset straps { s with pending := l }
      · rw [not_exists] at power
        have := K.exec (queue s l hs) i power
        rw [h] at this ⊢
        exact this
    rwa [h] at kept

end KeptByCommands
end Sys2Proof.Machine
end

section
/-! PROOFS. What the operations that open and end a message leave in each record, and RESTART as one property sees it. -/

namespace Sys2Proof.Machine

/-! ### The unwind -/

section Unwind
variable (s : State) (c : ChannelNo) (a : Bool) (x : DrainExit)

@[simp] theorem State.unwind_ch (d : ChannelNo) :
    (s.unwind c a x).ch d = if d = c then (s.ch c).unwound (s.spill.carries c) x else s.ch d := by
  simp [State.unwind]

@[simp] theorem State.unwind_rxOf (d : ChannelNo) :
    (s.unwind c a x).rxOf d = if d = c then { s.rxOf c with inUse := none } else s.rxOf d := by
  simp [State.unwind]

@[simp] theorem State.unwind_txOf (d : ChannelNo) :
    (s.unwind c a x).txOf d = if d = c then (s.txOf c).unwind (s.ch c).outputStarted a else s.txOf d := by
  simp [State.unwind]

@[simp] theorem State.unwind_spill :
    (s.unwind c a x).spill = { s.spill with queue := s.spill.queue.filter fun j => j.channel != c } := by
  simp [State.unwind, State.removeJob]

@[simp] theorem State.unwind_policy : (s.unwind c a x).policy = (s.releaseBound (s.ch c).bound).policy := by
  simp only [State.unwind, State.removeJob, State.releaseBound]
  cases (s.ch c).bound <;> rfl

end Unwind

/-- A channel that is HELD, in AWAIT or DISABLED has no message open. -/
theorem ChannelState.rests_closed {x : ChannelState} (h : x ∈ [.held, .await, .disabled]) : x.messageOpen = false := by
  revert h
  cases x <;> decide

/-! ### The clean end -/

section End
variable (s : State) (c : ChannelNo)

/-- The record of a channel whose message ended cleanly (R65). -/
def Channel.ended (ch : Channel) : Channel :=
  { ch with
    stats := { ch.stats with completed := satAdd count16Max ch.stats.completed 1 }
    bound := none
    state := .await }

@[simp] theorem State.endMessage_ch (d : ChannelNo) :
    (s.endMessage c).ch d = if d = c then (s.ch c).ended else s.ch d := by
  simp [State.endMessage, Channel.ended]

@[simp] theorem State.endMessage_rxOf (d : ChannelNo) :
    (s.endMessage c).rxOf d = if d = c then { s.rxOf c with inUse := none } else s.rxOf d := by
  simp [State.endMessage]

@[simp] theorem State.endMessage_txOf (d : ChannelNo) : (s.endMessage c).txOf d =
    if d = c then (if (s.ch c).outputStarted then (s.txOf c).closeMessage else s.txOf c) else s.txOf d := by
  simp [State.endMessage]

@[simp] theorem State.endMessage_spill : (s.endMessage c).spill = s.spill := by simp [State.endMessage]

@[simp] theorem State.endMessage_mgmt : (s.endMessage c).mgmt = s.mgmt := by simp [State.endMessage]

@[simp] theorem State.endMessage_linkErrors : (s.endMessage c).linkErrors = s.linkErrors := by
  simp [State.endMessage]

@[simp] theorem State.endMessage_counters : (s.endMessage c).counters = s.counters := by simp [State.endMessage]

@[simp] theorem State.endMessage_policy : (s.endMessage c).policy = (s.releaseBound (s.ch c).bound).policy := by
  simp only [State.endMessage, State.releaseBound]
  cases (s.ch c).bound <;> rfl

end End

/-! ### The start of a message -/

section Start
variable (s : State) (c : ChannelNo) (g : Segment) (gs : List Segment)

@[simp] theorem State.startMessage_ch (d : ChannelNo) :
    (s.startMessage c g).ch d = if d = c then (s.ch c).startMessage s.policy.active else s.ch d := by
  simp [State.startMessage]

@[simp] theorem State.startMessage_rxOf (d : ChannelNo) : (s.startMessage c g).rxOf d =
    if d = c then { s.rxOf c with inUse := some { rest := g.payload, eom := g.eom } } else s.rxOf d := by
  simp [State.startMessage]

@[simp] theorem State.startMessage_txOf (d : ChannelNo) : (s.startMessage c g).txOf d =
    if d = c then { s.txOf c with segmentSent := false } else s.txOf d := by
  simp [State.startMessage]

@[simp] theorem State.startMessage_spill : (s.startMessage c g).spill = s.spill := by simp [State.startMessage]

@[simp] theorem State.startMessage_mgmt : (s.startMessage c g).mgmt = s.mgmt := by simp [State.startMessage]

@[simp] theorem State.startMessage_linkErrors : (s.startMessage c g).linkErrors = s.linkErrors := by
  simp [State.startMessage]

@[simp] theorem State.startMessage_counters : (s.startMessage c g).counters = s.counters := by
  simp [State.startMessage]

@[simp] theorem State.startMessage_policy : (s.startMessage c g).policy = s.policy.bind s.policy.active := by
  simp [State.startMessage, State.modPolicy]

end Start

/-! ### Withholding and handing -/

section Withhold
variable (s t : State) (c : ChannelNo)

@[simp] theorem State.withhold_ch (d : ChannelNo) : (s.withhold t c).ch d =
    if d = c then { t.ch c with
      outputStarted := (s.ch c).outputStarted
      resident := (t.ch c).resident.take (s.ch c).resident.length } else t.ch d := by
  simp [State.withhold]

@[simp] theorem State.withhold_rxOf (d : ChannelNo) : (s.withhold t c).rxOf d = t.rxOf d := by simp [State.withhold]

@[simp] theorem State.withhold_txOf (d : ChannelNo) :
    (s.withhold t c).txOf d = if d = c then s.txOf c else t.txOf d := by
  simp [State.withhold]

@[simp] theorem State.withhold_spill : (s.withhold t c).spill = t.spill := by simp [State.withhold]
@[simp] theorem State.withhold_policy : (s.withhold t c).policy = t.policy := by simp [State.withhold]
@[simp] theorem State.withhold_mgmt : (s.withhold t c).mgmt = t.mgmt := by simp [State.withhold]
@[simp] theorem State.withhold_linkErrors : (s.withhold t c).linkErrors = t.linkErrors := by simp [State.withhold]
@[simp] theorem State.withhold_counters : (s.withhold t c).counters = t.counters := by simp [State.withhold]

end Withhold

/-! ### The refusal of the queued jobs -/

/-- A kept property keeps the refusal of the queued jobs where it keeps the handing of a refusal to the push that waits. -/
theorem KeptByOps.keptByEvents {P : State → Prop} (K : KeptByOps P)
    (release : ∀ (t : State) (d : ChannelNo) (p : PendingPush), P t → (t.ch d).state = .spillWait →
      (t.ch d).pendingPush = some p →
      P (t.modCh d fun ch => { ch with state := .inMessage, pendingPush := some { p with refused := true } })) :
    KeptByEvents P where
  toKeptByOps := K
  refused s h := by
    refine State.foldl_keeps (P := P) (fun t j ht => K.refuseJob ht release j) _ (K.port _ _ h ⟨?_, ?_, ?_, id⟩)
    · simp
    · exact List.subset_append_left _ _
    · exact ((List.append_nil _).symm ▸ List.sublist_append_left _ _ : List.Sublist _ _).subperm

/-! ### RESTART -/

section Restart
variable (s : State)

@[simp] theorem State.restartUnit_ch (r : CommandRecord) (d : ChannelNo) : (s.restartUnit r).ch d = s.ch d := by
  simp [State.restartUnit]

@[simp] theorem State.restartUnit_rxOf (r : CommandRecord) (d : ChannelNo) : (s.restartUnit r).rxOf d =
    if d = s.straps.mgmtSel then { s.rxOf d with inUse := none } else s.rxOf d := by
  by_cases h : d = s.straps.mgmtSel <;> simp [State.restartUnit, h]

@[simp] theorem State.restartUnit_txOf (r : CommandRecord) (d : ChannelNo) : (s.restartUnit r).txOf d = s.txOf d := by
  simp [State.restartUnit]

@[simp] theorem State.restartUnit_spill (r : CommandRecord) : (s.restartUnit r).spill = s.spill := rfl
@[simp] theorem State.restartUnit_policy (r : CommandRecord) : (s.restartUnit r).policy = s.policy := rfl
@[simp] theorem State.restartUnit_counters (r : CommandRecord) : (s.restartUnit r).counters = s.counters := rfl
@[simp] theorem State.restartUnit_linkErrors (r : CommandRecord) : (s.restartUnit r).linkErrors = s.linkErrors := rfl
@[simp] theorem State.restartUnit_isData (r : CommandRecord) (d : ChannelNo) :
    (s.restartUnit r).isData d = s.isData d := rfl

/-- A property that holds once the Management Unit has taken RESTART, that the events between the takings keep and that the
other blocks' taking keeps, is kept by RESTART. -/
theorem KeptByEvents.restart {P : State → Prop} (K : KeptByEvents P) {Q : State → Prop} {r : CommandRecord}
    (unit : P { s.restartUnit r with duringRestart := [] }) (blocks : ∀ t : State, P t → Q t.restartBlocks) :
    Q (s.restart r) :=
  blocks _ (State.foldl_keeps (P := P) (fun _ e ht => K.takeDuring ht e) _ unit)

/-- The blocks after RESTART, each on its own (Figure 10-3). -/
theorem State.restartBlocks_eq : s.restartBlocks = { s with
    table := Vector.ofFn fun c => if s.isData c then (s.ch c).restart else s.ch c
    rx := Vector.ofFn fun c => (s.rxOf c).restart (s.isData c)
    tx := Vector.ofFn fun c => if s.isData c then
      (s.txOf c).unwind ((s.ch c).state.messageOpen && (s.ch c).outputStarted) true else s.txOf c
    spill := s.spill.restart
    policy := s.policy.restart
    mgmt := { s.mgmt with stallTimer := 0, stallArmed := false }
    pointer := 15
    turn := none } := by
  simp only [State.restartBlocks, State.mapTx, State.mapCh, State.mapRx, State.modSpill, State.modPolicy, State.modMgmt,
    State.ch, State.rxOf, State.txOf, State.isData]

@[simp] theorem State.restartBlocks_ch (d : ChannelNo) :
    s.restartBlocks.ch d = if s.isData d then (s.ch d).restart else s.ch d := by
  rw [restartBlocks_eq, State.ch]
  simp

@[simp] theorem State.restartBlocks_rxOf (d : ChannelNo) :
    s.restartBlocks.rxOf d = (s.rxOf d).restart (s.isData d) := by
  rw [restartBlocks_eq, State.rxOf]
  simp

@[simp] theorem State.restartBlocks_txOf (d : ChannelNo) : s.restartBlocks.txOf d = if s.isData d then
    (s.txOf d).unwind ((s.ch d).state.messageOpen && (s.ch d).outputStarted) true else s.txOf d := by
  rw [restartBlocks_eq, State.txOf]
  simp

@[simp] theorem State.restartBlocks_spill : s.restartBlocks.spill = s.spill.restart := by
  simp [State.restartBlocks]
@[simp] theorem State.restartBlocks_policy : s.restartBlocks.policy = s.policy.restart := by
  simp [State.restartBlocks]
@[simp] theorem State.restartBlocks_counters : s.restartBlocks.counters = s.counters := by
  simp [State.restartBlocks]
@[simp] theorem State.restartBlocks_linkErrors : s.restartBlocks.linkErrors = s.linkErrors := by
  simp [State.restartBlocks]
@[simp] theorem State.restartBlocks_mgmt :
    s.restartBlocks.mgmt = { s.mgmt with stallTimer := 0, stallArmed := false } := by
  simp [State.restartBlocks]

end Restart

end Sys2Proof.Machine
end

section
/-! PROOFS. The buffers stay within their slots: every operation keeps the credit granted within the ingress slots, and
places a terminal segment only where none waits. -/

namespace Sys2Proof.Machine

/-! ### Ingress slots -/

/-- An emptied segment in use gives a slot back. -/
theorem RxChannel.slots_dropInUse (r : RxChannel) : { r with inUse := none }.slots ≤ r.slots := by
  simp [RxChannel.slots, RxChannel.occupied]

/-- The segment taken keeps its slot while it is in use (R40). -/
theorem RxChannel.slots_take {r : RxChannel} {g : Segment} {gs : List Segment} (h : r.ingress = g :: gs) (u : InUse) :
    { r with ingress := gs, inUse := some u }.slots ≤ r.slots := by
  simp only [RxChannel.slots, RxChannel.occupied, h, List.length_cons, Option.isSome_some, if_true]
  omega

theorem RxChannel.slots_restart (r : RxChannel) (d : Bool) : (r.restart d).slots ≤ r.slots := by
  cases d
  · exact le_rfl
  · simp only [RxChannel.restart, RxChannel.slots, RxChannel.occupied]
    split <;> simp

theorem State.SlotsOk.of_rx {s t : State} (h : s.SlotsOk) (e : ∀ c, (t.rxOf c).slots ≤ max 4 (s.rxOf c).slots) :
    t.SlotsOk := fun c => (e c).trans (max_le le_rfl (h c))

theorem State.SlotsOk.of_rx_eq {s t : State} (h : s.SlotsOk) (e : ∀ c, t.rxOf c = s.rxOf c) : t.SlotsOk :=
  fun c => by rw [e]; exact h c

theorem State.SlotsOk.unwind {s : State} (h : s.SlotsOk) (c : ChannelNo) (a : Bool) (x : DrainExit) :
    (s.unwind c a x).SlotsOk := by
  refine h.of_rx fun d => ?_
  by_cases e : d = c
  · simp [e, (s.rxOf c).slots_dropInUse]
  · simp [e]

theorem slotsOk_keptByOps : KeptByOps State.SlotsOk where
  wires _ _ _ _ _ _ _ h := h
  errors _ _ h _ := h
  counters _ _ h _ := h
  channels _ _ h _ := h
  receivers _ _ h e := h.of_rx e
  transmitters _ _ h _ := h
  unit _ _ h _ := h
  port _ _ h _ := h
  hand _ c u h _ _ _ := h.of_rx_eq fun d => State.hand_rxOf _ c u d
  unwind _ c a x h _ := h.unwind c a x
  start s c g gs h _ _ ingress := by
    refine h.of_rx fun d => ?_
    by_cases e : d = c
    · simpa [e] using Or.inr (RxChannel.slots_take ingress _)
    · simp [e]
  finish s c h _ _ _ _ := by
    refine h.of_rx fun d => ?_
    by_cases e : d = c
    · simp [e, (s.rxOf c).slots_dropInUse]
    · simp [e]
  withhold s t c _ h _ _ _ := h.of_rx_eq fun d => State.withhold_rxOf s t c d
  opens _ _ _ h _ _ := h
  spills _ _ _ h _ _ _ _ _ := h
  fills _ _ _ h _ _ _ _ _ := h
  spilled _ _ _ h _ _ := h
  filled _ _ _ _ h _ _ _ _ := h
  drained _ _ h _ _ := h

theorem slotsOk_keptByEvents : KeptByEvents State.SlotsOk :=
  slotsOk_keptByOps.keptByEvents fun _ _ _ h _ _ => h

theorem slotsOk_keptByCommands : KeptByCommands State.SlotsOk where
  toKeptByEvents := slotsOk_keptByEvents
  queues _ _ h := h
  rests _ _ h _ := h
  configures _ _ _ _ h _ _ _ _ := h
  policy _ _ h _ := h
  restart s r h := by
    refine slotsOk_keptByEvents.restart s (h.of_rx fun c => ?_) fun t ht => ht.of_rx fun c => ?_
    · change ((s.restartUnit r).rxOf c).slots ≤ _
      by_cases e : c = s.straps.mgmtSel
      · simp [e, (s.rxOf s.straps.mgmtSel).slots_dropInUse]
      · simp [e]
    · simp [(t.rxOf c).slots_restart]

theorem slotsOk_powerOn (straps : Straps) : (State.powerOn straps).SlotsOk := by
  intro c
  simp [State.powerOn, State.rxOf, RxChannel.powerOn, RxChannel.occupied]

end Sys2Proof.Machine
end

section
/-! PROOFS. The egress buffers: an ordinary segment takes a free ordinary slot, and the one terminal segment of a message is
placed where none waits. -/

namespace Sys2Proof.Machine

section Assembler
variable {t : TxChannel}

theorem TxChannel.terminal_hand (t : TxChannel) (u : List Byte) :
    (t.hand u).egress.filter EgressSegment.terminal = t.egress.filter EgressSegment.terminal := by
  simp only [TxChannel.hand]
  split
  · exact t.terminal_placeOrdinary _
  · rfl

theorem TxChannel.Fits.hand (f : t.Fits) {u : List Byte} (len : u.length ≤ 64)
    (room : t.pendingBytes.length + u.length < 64 ∨ t.ordinaryFree = true) : (t.hand u).Fits := by
  obtain ⟨ordinary, terminal, pending⟩ := f
  refine ⟨?_, t.terminal_hand u ▸ terminal, t.hand_pending_lt u pending len⟩
  simp only [TxChannel.hand, List.length_append]
  split
  · next full =>
    have count : ordinaryCount { t.placeOrdinary ((t.pendingBytes ++ u).take 64) with
        pendingBytes := (t.pendingBytes ++ u).drop 64, flushPending := false } = t.ordinaryCount + 1 :=
      t.ordinaryCount_placeOrdinary _
    rw [count]
    rcases room with short | free
    · omega
    · exact of_decide_eq_true free
  · exact ordinary

theorem TxChannel.Fits.dropPending (f : t.Fits) : t.dropPending.Fits := by
  obtain ⟨ordinary, terminal, -⟩ := f
  exact ⟨ordinary, terminal, by simp [TxChannel.dropPending]⟩

/-- A terminal segment finds its slot free. -/
theorem TxChannel.Fits.terminal (f : t.Fits) (none : t.terminalWaiting = false) {g : EgressSegment}
    (terminal : g.terminal = true) (bs : List Byte) (h : bs.length < 64) (sent flush : Bool) :
    { t with egress := t.egress ++ [g], pendingBytes := bs, segmentSent := sent, flushPending := flush }.Fits := by
  rw [t.terminalWaiting_eq_false_iff] at none
  obtain ⟨ordinary, -, -⟩ := f
  refine ⟨?_, ?_, h⟩
  · simpa [TxChannel.ordinaryCount, terminal] using ordinary
  · simp [none, terminal]

theorem TxChannel.Fits.unwind (f : t.Fits) {started : Bool} (none : started = true → t.terminalWaiting = false)
    (a : Bool) : (t.unwind started a).Fits := by
  simp only [TxChannel.unwind]
  split
  · next h => exact f.terminal (none (Bool.and_eq_true_iff.1 h).1) rfl _ (by simp [TxChannel.dropPending]) _ _
  · exact f.dropPending

theorem TxChannel.Fits.closeMessage (f : t.Fits) (none : t.terminalWaiting = false) : t.closeMessage.Fits :=
  f.terminal none rfl _ (by simp) _ _

end Assembler

/-- A channel's output is in order: its buffers fit, and no terminal segment waits while its message has output. -/
def Channel.OutputOk (ch : Channel) (t : TxChannel) : Prop :=
  t.Fits ∧ (ch.state.messageOpen = true → ch.outputStarted = true → t.terminalWaiting = false)

theorem State.egressOk_iff (s : State) : s.EgressOk ↔ ∀ c, (s.ch c).OutputOk (s.txOf c) :=
  forall_congr' fun _ => ⟨fun ⟨a, b, c, d⟩ => ⟨⟨a, b, c⟩, d⟩, fun ⟨⟨a, b, c⟩, d⟩ => ⟨a, b, c, d⟩⟩

/-- Output in order stays so where the message stays closed or its output is the same. -/
theorem Channel.OutputOk.of_ch {x y : Channel} {t : TxChannel} (h : x.OutputOk t)
    (keep : y.state.messageOpen = true → x.state.messageOpen = true ∧ y.outputStarted = x.outputStarted) :
    y.OutputOk t :=
  ⟨h.1, fun o started => h.2 (keep o).1 ((keep o).2 ▸ started)⟩

/-- Output in order stays so where no message is open. -/
theorem Channel.OutputOk.of_closed {x : Channel} {t : TxChannel} (f : t.Fits) (closed : x.state.messageOpen = false) :
    x.OutputOk t :=
  ⟨f, fun o => absurd o (by simp [closed])⟩

section Egress
variable {s : State}

/-- Egress in order stays so where one channel's record and output change. -/
theorem State.EgressOk.set (h : s.EgressOk) {t : State} {c : ChannelNo} (hc : (t.ch c).OutputOk (t.txOf c))
    (hd : ∀ d, d ≠ c → t.ch d = s.ch d ∧ t.txOf d = s.txOf d) : t.EgressOk := by
  rw [State.egressOk_iff] at h ⊢
  intro d
  by_cases e : d = c
  · exact e ▸ hc
  · rw [(hd d e).1, (hd d e).2]
    exact h d

/-- Egress in order stays so where one channel's record changes and its message stays closed or its output the same. -/
theorem State.EgressOk.modCh (h : s.EgressOk) {c : ChannelNo} {f : Channel → Channel}
    (keep : (f (s.ch c)).state.messageOpen = true → (s.ch c).state.messageOpen = true ∧
      (f (s.ch c)).outputStarted = (s.ch c).outputStarted) : (s.modCh c f).EgressOk := by
  refine h.set (c := c) ?_ fun d e => by simp [e]
  have ok := (s.egressOk_iff.1 h c).of_ch keep
  simpa using ok

theorem State.EgressOk.unwind (h : s.EgressOk) {c : ChannelNo} (isOpen : (s.ch c).state.messageOpen = true) (a : Bool)
    (x : DrainExit) : (s.unwind c a x).EgressOk := by
  refine h.set (c := c) (.of_closed ?_ ?_) fun d e => by simp [e]
  · obtain ⟨fits, none⟩ := s.egressOk_iff.1 h c
    simpa using fits.unwind (none isOpen) a
  · simp [Channel.unwound_closed]

end Egress

theorem egressOk_keptByOps : KeptByOps State.EgressOk where
  wires _ _ _ _ _ _ _ h := h
  errors _ _ h _ := h
  counters _ _ h _ := h
  channels s v h e := by
    rw [State.egressOk_iff] at h ⊢
    exact fun c => (h c).of_ch fun o => ⟨(e c).state ▸ o, (e c).started⟩
  receivers _ _ h _ := h
  transmitters s v h e := by
    rw [State.egressOk_iff] at h ⊢
    exact fun c => ⟨(e c).fits (h c).1, fun o started => (e c).terminal ((h c).2 o started)⟩
  unit _ _ h _ := h
  port _ _ h _ := h
  hand s c u h run len room := by
    obtain ⟨fits, none⟩ := s.egressOk_iff.1 h c
    obtain ⟨first, slot⟩ := Bool.and_eq_true_iff.1 room
    have free : (s.txOf c).terminalWaiting = false := by
      rcases Bool.or_eq_true_iff.1 first with started | free
      · exact none (by rw [run]; rfl) started
      · simpa using free
    refine h.set (c := c) ?_ fun d e => by simp [e]
    have handed : (((s.txOf c).hand u)).terminalWaiting = false := by
      rw [TxChannel.terminalWaiting_eq_false_iff] at free ⊢
      rw [TxChannel.terminal_hand, free]
    simpa using ⟨fits.hand len (by simpa using slot), fun _ _ => handed⟩
  unwind s c a x h isOpen := h.unwind isOpen a x
  start s c g gs h await _ _ := by
    refine h.set (c := c) ?_ fun d e => by simp [e]
    obtain ⟨fits, -⟩ := s.egressOk_iff.1 h c
    refine ⟨?_, fun _ started => ?_⟩
    · simp only [State.startMessage_txOf, if_true]
      exact fits
    · simp [Channel.startMessage] at started
  finish s c h run _ _ _ := by
    obtain ⟨fits, none⟩ := s.egressOk_iff.1 h c
    refine h.set (c := c) (.of_closed ?_ ?_) fun d e => by simp [e]
    · simp only [State.endMessage_txOf, if_true]
      split
      · next started => exact fits.closeMessage (none (by rw [run]; rfl) started)
      · exact fits
    · simp [Channel.ended, ChannelState.messageOpen]
  withhold s t c h ht run later _ := by
    refine ht.set (c := c) ?_ fun d e => by simp [e]
    rw [State.withhold_ch, State.withhold_txOf, if_pos rfl, if_pos rfl]
    exact (s.egressOk_iff.1 h c).of_ch fun _ => ⟨by rw [run]; rfl, rfl⟩
  opens s c p h run _ := h.modCh fun o => ⟨o, rfl⟩
  spills s c p h run _ _ _ _ := State.EgressOk.modCh (s := s.raiseJob _) h fun _ =>
    ⟨by simp [run, ChannelState.messageOpen], rfl⟩
  fills s c e h run _ _ _ _ := State.EgressOk.modCh (s := s.raiseJob _) h fun _ =>
    ⟨by simp [run, ChannelState.messageOpen], rfl⟩
  spilled s j p h _ waits := State.EgressOk.modCh (s := s.freeWires) h fun _ =>
    ⟨by simp [State.freeWires, waits, ChannelState.messageOpen], rfl⟩
  filled s j p es h _ waits _ _ := State.EgressOk.modCh (s := s.freeWires) h fun _ =>
    ⟨by simp [State.freeWires, waits, ChannelState.messageOpen], rfl⟩
  drained s c h _ _ := h.modCh fun o => by
    cases e : (s.ch c).drainExit <;> simp [e, DrainExit.toState, ChannelState.messageOpen] at o

theorem egressOk_keptByEvents : KeptByEvents State.EgressOk :=
  egressOk_keptByOps.keptByEvents fun t d p h waits _ => h.modCh fun _ => ⟨by rw [waits]; rfl, rfl⟩

theorem egressOk_keptByCommands : KeptByCommands State.EgressOk where
  toKeptByEvents := egressOk_keptByEvents
  queues _ _ h := h
  rests s v h e := by
    rw [State.egressOk_iff] at h ⊢
    intro c
    rcases e c with same | ⟨-, x, eq, -, rest, -⟩
    · change v[c].OutputOk _
      rw [same]
      exact h c
    · refine .of_closed (h c).1 ?_
      change v[c].state.messageOpen = false
      rw [eq]
      exact ChannelState.rests_closed rest
  configures _ _ _ _ h _ _ _ _ := h.modCh fun o => ⟨o, rfl⟩
  policy _ _ h _ := h
  restart s r h := by
    refine egressOk_keptByEvents.restart s (P := State.EgressOk) ?_ fun t ht => ?_
    · exact h
    · rw [State.egressOk_iff] at ht ⊢
      intro c
      obtain ⟨fits, none⟩ := ht c
      simp only [State.restartBlocks_ch, State.restartBlocks_txOf]
      split
      · refine .of_closed (fits.unwind (fun started => ?_) _) ?_
        · exact none (Bool.and_eq_true_iff.1 started).1 (Bool.and_eq_true_iff.1 started).2
        · simp only [Channel.restart]
          split <;> rfl
      · exact ⟨fits, none⟩

theorem egressOk_powerOn (straps : Straps) : (State.powerOn straps).EgressOk := by
  intro c
  simp [State.powerOn, State.txOf, State.ch, TxChannel.powerOn, TxChannel.ordinaryCount, Channel.powerOn]

end Sys2Proof.Machine
end

section
/-! PROOFS. The obligation of the buffers. -/

section
open Sys2Proof Sys2Proof.Machine

/-- Settles O60, by the two invariants kept by every operation the commands are made of. -/
theorem stepsKeepBuffersOk : Obligations.StepsKeepBuffersOk :=
  ⟨fun _ _ => slotsOk_keptByCommands.step (fun straps _ => slotsOk_powerOn straps) fun _ _ h => h,
    fun _ _ => egressOk_keptByCommands.step (fun straps _ => egressOk_powerOn straps) fun _ _ h => h⟩

end
end

section
/-! PROOFS. The bank references: a message opens with one reference to the active bank and gives it back when it ends, so each
bank's count is the number of channels bound to it. -/

namespace Sys2Proof.Machine

/-! ### Counting the channels -/

/-- Two counts of a list without repetition differ by the one element at which the predicates differ. -/
theorem countP_add_of_eq_off {α : Type} [DecidableEq α] {p q : α → Bool} {c : α} {l : List α} (nodup : l.Nodup)
    (mem : c ∈ l) (off : ∀ d, d ≠ c → p d = q d) :
    l.countP p + (if q c then 1 else 0) = l.countP q + if p c then 1 else 0 := by
  have rest : (l.erase c).countP p = (l.erase c).countP q := by
    refine List.countP_congr fun d hd => ?_
    rw [off d (List.Nodup.mem_erase_iff nodup |>.1 hd).1]
  rw [(List.perm_cons_erase mem).countP_eq p, (List.perm_cons_erase mem).countP_eq q, List.countP_cons,
    List.countP_cons, rest]
  omega

theorem allChannels_nodup : allChannels.Nodup := by decide

theorem mem_allChannels (c : ChannelNo) : c ∈ allChannels := by
  revert c
  decide

/-- A channel's binding names this bank. -/
def Channel.boundIn (ch : Channel) (n : BankName) : Bool := ch.bound.map Binding.bank == some n

theorem State.boundTo_congr {s t : State} (h : ∀ c, (t.ch c).bound = (s.ch c).bound) (n : BankName) :
    t.boundTo n = s.boundTo n := by
  simp only [State.boundTo, h]

/-- The count after one channel's binding changes. -/
theorem State.boundTo_add {s t : State} {c : ChannelNo} (h : ∀ d, d ≠ c → (t.ch d).bound = (s.ch d).bound)
    (n : BankName) : t.boundTo n + (if (s.ch c).boundIn n then 1 else 0) =
      s.boundTo n + if (t.ch c).boundIn n then 1 else 0 :=
  countP_add_of_eq_off (p := fun c => (t.ch c).boundIn n) (q := fun c => (s.ch c).boundIn n) allChannels_nodup
    (mem_allChannels c) fun d hd => by simp only [Channel.boundIn, h d hd]

/-- One channel of the sixteen is never bound. -/
theorem State.boundTo_le {s : State} (h : (s.ch s.straps.mgmtSel).bound = none) (n : BankName) : s.boundTo n ≤ 15 := by
  refine Nat.le_of_lt_succ (lt_of_le_of_ne (List.countP_le_length (l := allChannels)) fun all => ?_)
  have bound := List.countP_eq_length.1 all s.straps.mgmtSel (mem_allChannels _)
  simp [h] at bound

/-! ### The Policy Store's operations -/

theorem PolicyStore.bank_setBank (p : PolicyStore) (n m : BankName) (b : Bank) :
    (p.setBank n b).bank m = if m = n then b else p.bank m := by
  cases n <;> cases m <;> rfl

@[simp] theorem PolicyStore.bind_active (p : PolicyStore) (n : BankName) : (p.bind n).active = p.active := by
  simp [PolicyStore.bind]

@[simp] theorem PolicyStore.bind_staging (p : PolicyStore) (n : BankName) : (p.bind n).staging = p.staging := by
  simp [PolicyStore.bind]

theorem PolicyStore.bind_refs (p : PolicyStore) (n m : BankName) :
    ((p.bind n).bank m).refs = (p.bank m).refs + if m = n then 1 else 0 := by
  rw [PolicyStore.bind, PolicyStore.bank_setBank]
  split
  · next e => rw [e]
  · rfl

theorem PolicyStore.release_refs (p : PolicyStore) (n m : BankName) :
    ((p.release n).bank m).refs = (p.bank m).refs - if m = n then 1 else 0 := by
  have released : (p.release n).bank m = (p.setBank n { p.bank n with refs := (p.bank n).refs - 1 }).bank m := by
    simp only [PolicyStore.release]
    split <;> rfl
  rw [released, PolicyStore.bank_setBank]
  split
  · next e => rw [e]
  · rfl

/-- The last release of the DRAINING bank ends its DRAINING (R114). -/
theorem PolicyStore.release_draining {p : PolicyStore} {n : BankName}
    (h : p.staging = .draining ↔ 0 < (p.bank p.stagingBank).refs) (held : 0 < (p.bank n).refs) :
    (p.release n).staging = .draining ↔ 0 < ((p.release n).bank (p.release n).stagingBank).refs := by
  have staging : (p.release n).staging =
      if n = p.stagingBank ∧ p.staging = .draining ∧ (p.bank n).refs - 1 = 0 then .copying else p.staging := by
    simp only [PolicyStore.release, Bool.and_eq_true, beq_iff_eq, and_assoc]
    split <;> simp
  have same : (p.release n).stagingBank = p.stagingBank := by simp [PolicyStore.stagingBank]
  rw [same, p.release_refs, staging]
  by_cases e : n = p.stagingBank
  · subst e
    have draining := h.2 held
    simp only [draining, true_and, if_true]
    split <;> simp <;> omega
  · simp [e, Ne.symm e, h]

/-! ### The invariant -/

section References
variable {s t : State} {c : ChannelNo}

/-- The references stay right where no binding and no message comes or goes. -/
theorem State.ReferencesOk.of_same (h : s.ReferencesOk) (straps : t.straps = s.straps) (policy : t.policy = s.policy)
    (bound : ∀ c, (t.ch c).bound = (s.ch c).bound)
    (isOpen : ∀ c, (t.ch c).state.messageOpen = (s.ch c).state.messageOpen) : t.ReferencesOk := by
  obtain ⟨hbound, management, counts, limit, staging⟩ := h
  refine ⟨fun c => ?_, ?_, fun n => ?_, ?_, ?_⟩
  · rw [bound, isOpen]
    exact hbound c
  · rw [straps, bound]
    exact management
  · rw [policy, State.boundTo_congr bound]
    exact counts n
  · rwa [policy]
  · rwa [policy]

/-- The references stay right where one channel's record changes and its message with its binding stays. -/
theorem State.ReferencesOk.modCh (h : s.ReferencesOk) {f : Channel → Channel}
    (bound : (f (s.ch c)).bound = (s.ch c).bound)
    (isOpen : (f (s.ch c)).state.messageOpen = (s.ch c).state.messageOpen) : (s.modCh c f).ReferencesOk := by
  refine h.of_same rfl rfl (fun d => ?_) fun d => ?_
  all_goals
    by_cases e : d = c
    · simp [e, bound, isOpen]
    · simp [e]

/-- A message that ends gives its reference back. -/
theorem State.ReferencesOk.close (h : s.ReferencesOk) (isOpen : (s.ch c).state.messageOpen = true)
    (straps : t.straps = s.straps) (policy : t.policy = (s.releaseBound (s.ch c).bound).policy)
    (gone : (t.ch c).bound = none) (closed : (t.ch c).state.messageOpen = false)
    (off : ∀ d, d ≠ c → t.ch d = s.ch d) : t.ReferencesOk := by
  obtain ⟨bound, management, counts, limit, staging⟩ := h
  obtain ⟨b, hb⟩ : ∃ b, (s.ch c).bound = some b := Option.isSome_iff_exists.1 (by rw [bound, isOpen])
  have released : t.policy = s.policy.release b.bank := by rw [policy, hb]; rfl
  have count : ∀ n, s.boundTo n = t.boundTo n + if n = b.bank then 1 else 0 := by
    intro n
    have sum := State.boundTo_add (c := c) (fun d hd => congrArg Channel.bound (off d hd)) n
    simp only [Channel.boundIn, hb, gone, Option.map_some, Option.map_none, beq_iff_eq, Option.some.injEq,
      reduceCtorEq, if_false] at sum
    rw [Nat.add_zero] at sum
    rw [← sum]
    simp [eq_comm]
  have refs : ∀ n, (t.policy.bank n).refs = t.boundTo n := by
    intro n
    rw [released, PolicyStore.release_refs, counts, count, Nat.add_sub_cancel]
  have mgmt : (t.ch t.straps.mgmtSel).bound = none := by
    rw [straps]
    by_cases e : s.straps.mgmtSel = c
    · rw [e, gone]
    · rw [off _ e, management]
  refine ⟨fun d => ?_, mgmt, refs, fun n => refs n ▸ State.boundTo_le mgmt n, ?_⟩
  · by_cases e : d = c
    · rw [e, gone, closed]
      rfl
    · rw [off d e, bound]
  · rw [released]
    refine PolicyStore.release_draining staging ?_
    rw [counts, count, if_pos rfl]
    omega

/-- A message that opens takes a reference to the active bank. -/
theorem State.ReferencesOk.start (h : s.ReferencesOk) (await : (s.ch c).state = .await) (data : s.isData c = true)
    (straps : t.straps = s.straps) (policy : t.policy = s.policy.bind s.policy.active)
    (taken : (t.ch c).bound.map Binding.bank = some s.policy.active) (isOpen : (t.ch c).state.messageOpen = true)
    (off : ∀ d, d ≠ c → t.ch d = s.ch d) : t.ReferencesOk := by
  obtain ⟨bound, management, counts, limit, staging⟩ := h
  have none : (s.ch c).bound = none := Option.not_isSome_iff_eq_none.1 (by rw [bound, await]; decide)
  have count : ∀ n, t.boundTo n = s.boundTo n + if n = s.policy.active then 1 else 0 := by
    intro n
    have sum := State.boundTo_add (c := c) (fun d hd => congrArg Channel.bound (off d hd)) n
    simp only [Channel.boundIn, none, taken, Option.map_none, beq_iff_eq, Option.some.injEq, reduceCtorEq,
      if_false, Nat.add_zero] at sum
    rw [sum]
    simp [eq_comm]
  have refs : ∀ n, (t.policy.bank n).refs = t.boundTo n := by
    intro n
    rw [policy, PolicyStore.bind_refs, counts, count]
  have mgmt : (t.ch t.straps.mgmtSel).bound = Option.none := by
    have ne : s.straps.mgmtSel ≠ c := by
      rintro rfl
      simp [State.isData] at data
    rw [straps, off _ ne, management]
  refine ⟨fun d => ?_, mgmt, refs, fun n => refs n ▸ State.boundTo_le mgmt n, ?_⟩
  · by_cases e : d = c
    · rw [e, isOpen]
      cases hb : (t.ch c).bound <;> simp_all
    · rw [off d e, bound]
  · have same : t.policy.stagingBank = s.policy.stagingBank := by rw [policy]; simp [PolicyStore.stagingBank]
    have other : s.policy.stagingBank ≠ s.policy.active := BankName.other_ne _
    rw [same, policy, PolicyStore.bind_refs, if_neg other, PolicyStore.bind_staging]
    exact staging

end References

theorem referencesOk_keptByOps : KeptByOps State.ReferencesOk where
  wires _ _ _ _ _ _ _ h := h.of_same rfl rfl (fun _ => rfl) fun _ => rfl
  errors _ _ h _ := h.of_same rfl rfl (fun _ => rfl) fun _ => rfl
  counters _ _ h _ := h.of_same rfl rfl (fun _ => rfl) fun _ => rfl
  channels s v h e := h.of_same rfl rfl (fun c => (e c).bound) fun c => congrArg _ (e c).state
  receivers _ _ h _ := h.of_same rfl rfl (fun _ => rfl) fun _ => rfl
  transmitters _ _ h _ := h.of_same rfl rfl (fun _ => rfl) fun _ => rfl
  unit _ _ h _ := h.of_same rfl rfl (fun _ => rfl) fun _ => rfl
  port _ _ h _ := h.of_same rfl rfl (fun _ => rfl) fun _ => rfl
  hand s c u h _ _ _ := State.ReferencesOk.modCh (s := s.modTx c _)
    (h.of_same rfl rfl (fun _ => rfl) fun _ => rfl) rfl rfl
  unwind s c a x h isOpen := by
    refine h.close isOpen (State.unwind_straps s c a x) (State.unwind_policy s c a x) ?_ ?_ fun d e => ?_
    · simp
    · simp [Channel.unwound_closed]
    · simp [e]
  start s c g gs h await data _ := by
    refine h.start (c := c) await data ?_ ?_ ?_ ?_ fun d e => ?_
    · simp
    · simp
    · simp [Channel.startMessage]
    · simp [Channel.startMessage, ChannelState.messageOpen]
    · simp [e]
  finish s c h run _ _ _ := by
    refine h.close (c := c) (by rw [run]; rfl) ?_ (State.endMessage_policy s c) ?_ ?_ fun d e => ?_
    · simp
    · simp [Channel.ended]
    · simp [Channel.ended, ChannelState.messageOpen]
    · simp [e]
  withhold s t c _ h _ _ _ := by
    refine h.of_same (by simp) (by simp) (fun d => ?_) fun d => ?_
    all_goals
      by_cases e : d = c
      · simp [e]
      · simp [e]
  opens s c p h _ _ := h.modCh rfl rfl
  spills s c p h run _ _ _ _ := State.ReferencesOk.modCh (s := s.raiseJob _)
    (h.of_same rfl rfl (fun _ => rfl) fun _ => rfl) rfl (by simp [run, ChannelState.messageOpen])
  fills s c e h run _ _ _ _ := State.ReferencesOk.modCh (s := s.raiseJob _)
    (h.of_same rfl rfl (fun _ => rfl) fun _ => rfl) rfl (by simp [run, ChannelState.messageOpen])
  spilled s j p h _ waits := State.ReferencesOk.modCh (s := s.freeWires)
    (h.of_same rfl rfl (fun _ => rfl) fun _ => rfl) rfl
    (by simp [State.freeWires, waits, Channel.spillTaken, ChannelState.messageOpen])
  filled s j p es h _ waits _ _ := State.ReferencesOk.modCh (s := s.freeWires)
    (h.of_same rfl rfl (fun _ => rfl) fun _ => rfl) rfl
    (by simp [State.freeWires, waits, Channel.fillTaken, ChannelState.messageOpen])
  drained s c h _ drain := h.modCh rfl (by
    cases (s.ch c).drainExit <;> simp [drain, DrainExit.toState, ChannelState.messageOpen])

theorem referencesOk_keptByEvents : KeptByEvents State.ReferencesOk :=
  referencesOk_keptByOps.keptByEvents fun t d p h waits _ => h.modCh rfl (by rw [waits]; rfl)

/-- The references stay right through the edits of the Policy Store: roles change hands only with the staging bank READY. -/
theorem State.ReferencesOk.policy {s : State} (h : s.ReferencesOk) {p : PolicyStore} (e : s.policy.EditsTo p) :
    State.ReferencesOk { s with policy := p } := by
  obtain ⟨bound, management, counts, limit, staging⟩ := h
  have refs : ∀ n, (p.bank n).refs = (s.policy.bank n).refs := by
    intro n
    cases e with
    | stage _ b same _ =>
      rw [PolicyStore.setStaged, PolicyStore.bank_setBank]
      split
      · next e => rw [same, e]; rfl
      · rfl
    | commit => cases n <;> rfl
    | copied =>
      change ((s.policy.setStaged _).bank n).refs = _
      rw [PolicyStore.setStaged, PolicyStore.bank_setBank]
      split
      · next e => rw [e]; rfl
      · rfl
  refine ⟨bound, management, fun n => (refs n).trans (counts n), fun n => (refs n).trans_le (limit n), ?_⟩
  change p.staging = .draining ↔ 0 < (p.bank p.stagingBank).refs
  rw [refs]
  cases e with
  | stage ready b _ _ =>
    have same : (s.policy.setStaged b).stagingBank = s.policy.stagingBank := by
      simp [PolicyStore.setStaged, PolicyStore.stagingBank]
    rw [same, ← staging]
    simp [PolicyStore.setStaged]
  | commit ready =>
    have same : s.policy.commit.stagingBank = s.policy.active := by
      cases e : s.policy.active <;> simp [PolicyStore.commit, PolicyStore.stagingBank, e, BankName.other]
    rw [same]
    simp only [PolicyStore.commit]
    split <;> simp_all
  | copied copying =>
    have same : s.policy.copied.stagingBank = s.policy.stagingBank := by
      simp [PolicyStore.copied, PolicyStore.setStaged, PolicyStore.stagingBank]
    rw [same, ← staging, copying]
    simp [PolicyStore.copied]

/-- RESTART closes every message and clears the counts (R118). -/
theorem State.ReferencesOk.restartBlocks {s : State} (h : s.ReferencesOk) : s.restartBlocks.ReferencesOk := by
  obtain ⟨bound, management, -, -, -⟩ := h
  have none : ∀ c, (s.restartBlocks.ch c).bound = none := by
    intro c
    rw [State.restartBlocks_ch]
    split
    · rfl
    · next mgmt =>
      obtain rfl : c = s.straps.mgmtSel := by simpa [State.isData] using mgmt
      exact management
  have refs : ∀ n, (s.restartBlocks.policy.bank n).refs = 0 := by
    intro n
    rw [State.restartBlocks_policy]
    cases n <;> rfl
  have count : ∀ n, s.restartBlocks.boundTo n = 0 := by
    intro n
    rw [State.boundTo, List.countP_eq_zero]
    intro c _
    rw [none]
    simp
  refine ⟨fun c => ?_, none _, fun n => (refs n).trans (count n).symm, fun n => by rw [refs]; omega, ?_⟩
  · rw [none, State.restartBlocks_ch]
    split
    · simp only [Channel.restart]
      split <;> rfl
    · next mgmt =>
      obtain rfl : c = s.straps.mgmtSel := by simpa [State.isData] using mgmt
      rw [← bound, management]
  · rw [refs, State.restartBlocks_policy]
    simp only [PolicyStore.restart]
    split <;> simp

theorem referencesOk_keptByCommands : KeptByCommands State.ReferencesOk where
  toKeptByEvents := referencesOk_keptByEvents
  queues _ _ h := h.of_same rfl rfl (fun _ => rfl) fun _ => rfl
  rests s v h e := by
    refine h.of_same rfl rfl (fun c => ?_) fun c => ?_
    · change v[c].bound = _
      rcases e c with same | ⟨-, x, eq, -, -, -⟩
      · rw [same]
      · rw [eq]
    · change v[c].state.messageOpen = _
      rcases e c with same | ⟨-, x, eq, old, new, -⟩
      · rw [same]
      · rw [eq]
        exact (ChannelState.rests_closed new).trans (ChannelState.rests_closed old).symm
  configures _ _ _ _ h _ _ _ _ := h.modCh rfl rfl
  policy s p h e := h.policy e
  restart s r h := by
    refine referencesOk_keptByEvents.restart s (P := State.ReferencesOk) ?_ fun t ht => ht.restartBlocks
    exact h.of_same rfl rfl (fun _ => rfl) fun _ => rfl

theorem referencesOk_powerOn (straps : Straps) : (State.powerOn straps).ReferencesOk := by
  have ch : ∀ c, (State.powerOn straps).ch c = Channel.powerOn := fun c => by simp [State.powerOn, State.ch]
  have count : ∀ n, (State.powerOn straps).boundTo n = 0 := by
    intro n
    rw [State.boundTo, List.countP_eq_zero]
    simp [ch, Channel.powerOn]
  refine ⟨fun c => by rw [ch]; rfl, by rw [ch]; rfl, fun n => ?_, fun n => ?_, ?_⟩
  · rw [count]
    cases n <;> rfl
  · cases n <;> exact Nat.zero_le _
  · exact ⟨nofun, fun h => absurd h (Nat.lt_irrefl 0)⟩

end Sys2Proof.Machine
end

section
/-! PROOFS. The obligation of the bank references. -/

section
open Sys2Proof Sys2Proof.Machine

/-- Settles O59, by the invariant kept by every operation the commands are made of. -/
theorem stepsKeepReferencesOk : Obligations.StepsKeepReferencesOk := fun _ _ =>
  referencesOk_keptByCommands.step (fun straps _ => (referencesOk_powerOn straps).of_same rfl rfl (fun _ => rfl) fun _ => rfl)
    fun _ _ h => h.of_same rfl rfl (fun _ => rfl) fun _ => rfl

end
end

section
/-! PROOFS. The counts stay in their ranges, record by record; and the banks stay in order. -/

namespace Sys2Proof.Machine

/-- The counts of the state are those of its records. -/
theorem State.countsOk_iff (s : State) : s.CountsOk ↔ s.linkErrors.CountsOk ∧ (∀ c, (s.ch c).CountsOk) ∧
    (∀ c, (s.txOf c).credits ≤ 8) ∧ s.mgmt.CountsOk ∧ s.spill.failures ≤ 2 ∧ CountersOk s.counters := by
  constructor
  · rintro ⟨errors, stats, consumed, timers, downstream, credits, notices, timer, collected, arguments, failures, pairs⟩
    exact ⟨errors, fun c => ⟨stats c, consumed c, timers c⟩, downstream, ⟨credits, notices, timer, collected, arguments⟩,
      failures, pairs⟩
  · rintro ⟨errors, channels, downstream, ⟨credits, notices, timer, collected, arguments⟩, failures, pairs⟩
    exact ⟨errors, fun c => (channels c).stats, fun c => (channels c).consumed, fun c => (channels c).timers, downstream,
      credits, notices, timer, collected, arguments, failures, pairs⟩

section Counts
variable {s t : State} {c : ChannelNo}

/-- The counts stay in range where each record's do. -/
theorem State.CountsOk.of_parts (h : s.CountsOk) (errors : s.linkErrors.CountsOk → t.linkErrors.CountsOk)
    (channels : ∀ c, (s.ch c).CountsOk → (t.ch c).CountsOk)
    (downstream : ∀ c, (s.txOf c).credits ≤ 8 → (t.txOf c).credits ≤ 8) (mgmt : s.mgmt.CountsOk → t.mgmt.CountsOk)
    (failures : s.spill.failures ≤ 2 → t.spill.failures ≤ 2) (pairs : CountersOk s.counters → CountersOk t.counters) :
    t.CountsOk := by
  obtain ⟨e, ch, d, m, f, p⟩ := s.countsOk_iff.1 h
  exact t.countsOk_iff.2
    ⟨errors e, fun c => channels c (ch c), fun c => downstream c (d c), mgmt m, failures f, pairs p⟩

theorem State.CountsOk.channel (h : s.CountsOk) (c : ChannelNo) : (s.ch c).CountsOk :=
  (s.countsOk_iff.1 h).2.1 c

/-- The counts stay in range where one channel's do. -/
theorem State.CountsOk.modCh (h : s.CountsOk) {f : Channel → Channel} (e : (s.ch c).CountsOk → (f (s.ch c)).CountsOk) :
    (s.modCh c f).CountsOk := by
  refine h.of_parts id (fun d => ?_) (fun _ => id) id id id
  by_cases same : d = c
  · simpa [same] using e
  · simp [same]

end Counts

section Record
variable {ch : Channel}

/-- The counts of a channel record whose held scopes come from another's. -/
theorem Channel.CountsOk.of_holds {x : Channel} (ok : ch.CountsOk) (stats : x.stats = ch.stats)
    (config : x.config = ch.config) (timer : x.stallTimer = ch.stallTimer)
    (holds : ∀ e, x.Holds e → ch.Holds e ∨ e.consumed ≤ 16777215) : x.CountsOk := by
  refine ⟨stats ▸ ok.stats, fun e held => ?_, ?_⟩
  · rcases holds e held with held | small
    · exact ok.consumed e held
    · exact small
  · rw [config, timer]
    exact ok.timers

theorem Channel.CountsOk.unwound (ok : ch.CountsOk) (flying : Bool) (x : DrainExit) : (ch.unwound flying x).CountsOk :=
  ok.of_holds rfl rfl rfl fun e held => by simp [Channel.Holds, Channel.unwound] at held

theorem Channel.CountsOk.startMessage (ok : ch.CountsOk) (n : BankName) : (ch.startMessage n).CountsOk :=
  ⟨ok.stats, fun e held => ok.consumed e (by
    rcases held with mem | push | close
    · cases mem
    · exact .inr (.inl push)
    · cases close), ok.timers.1, ok.timers.1⟩

theorem Channel.CountsOk.ended (ok : ch.CountsOk) : ch.ended.CountsOk := by
  obtain ⟨⟨-, aborted, faults, degrades⟩, consumed, timers⟩ := ok
  exact ⟨⟨satAdd_le _ _ _, aborted, faults, degrades⟩, consumed, timers⟩

theorem Channel.CountsOk.restart (ok : ch.CountsOk) : ch.restart.CountsOk := by
  refine ⟨by simp [Channel.restart, Channel.powerOn], fun e held => ?_, ok.timers.1, by simp [Channel.restart, Channel.powerOn]⟩
  simp [Channel.Holds, Channel.restart, Channel.powerOn] at held

/-- A scope opened was fresh, or the pending push. -/
theorem Channel.CountsOk.opens (ok : ch.CountsOk) {p : PendingPush}
    (h : ch.MayOpen p.entry ∨ (ch.pendingPush = some p ∧ p.refused = false)) (n : Nat) :
    { ch with resident := ch.resident ++ [p.entry], outputDepth := n, pendingPush := none, parse := .header [] }.CountsOk := by
  refine ok.of_holds rfl rfl rfl fun e held => ?_
  rcases held with mem | ⟨q, push, -⟩ | close
  · rcases List.mem_append.1 mem with mem | mem
    · exact .inl (.inl mem)
    · obtain rfl := List.mem_singleton.1 mem
      rcases h with fresh | ⟨push, -⟩
      · exact .inr (by simp [fresh.fresh])
      · exact .inl (.inr (.inl ⟨p, push, rfl⟩))
  · cases push
  · cases close

/-- Scopes dropped from the outside leave the rest in range. -/
theorem Channel.CountsOk.sublist (ok : ch.CountsOk) {es : List ScopeEntry} (sub : es.Sublist ch.resident) (n : Nat)
    (x : ChannelState) (started : Bool) :
    { ch with resident := es, spilled := n, state := x, outputStarted := started }.CountsOk := by
  refine ok.of_holds rfl rfl rfl fun e held => .inl ?_
  rcases held with mem | push | close
  · exact .inl (sub.subset mem)
  · exact .inr (.inl push)
  · exact .inr (.inr close)

end Record

theorem countsOk_keptByOps : KeptByOps State.CountsOk where
  wires _ _ _ _ _ _ _ h := h.of_parts id (fun _ => id) (fun _ => id) id id id
  errors _ _ h e := h.of_parts e (fun _ => id) (fun _ => id) id id id
  counters _ _ h e := h.of_parts id (fun _ => id) (fun _ => id) id id e
  channels _ _ h e := h.of_parts id (fun c => (e c).counts) (fun _ => id) id id id
  receivers _ _ h _ := h.of_parts id (fun _ => id) (fun _ => id) id id id
  transmitters _ _ h e := h.of_parts id (fun _ => id) (fun c => (e c).credits) id id id
  unit _ _ h e := h.of_parts id (fun _ => id) (fun _ => id) e.counts id id
  port _ _ h e := h.of_parts id (fun _ => id) (fun _ => id) id e.failures id
  hand s c u h _ _ _ := by
    refine h.of_parts (by simp) (fun d => ?_) (fun d => ?_) (by simp) (by simp) (by simp)
    · by_cases e : d = c
      · simpa [e] using fun ok : (s.ch c).CountsOk => ok.sublist (List.Sublist.refl _) (s.ch c).spilled (s.ch c).state true
      · simp [e]
    · by_cases e : d = c
      · simp only [e, State.hand_txOf, if_true, TxChannel.hand]
        split <;> exact id
      · simp [e]
  unwind s c a x h _ := by
    refine h.of_parts (by simp) (fun d => ?_) (fun d => ?_) (by simp) (by simp) (by simp)
    · by_cases e : d = c
      · simpa [e] using fun ok : (s.ch c).CountsOk => ok.unwound _ _
      · simp [e]
    · by_cases e : d = c
      · simp only [e, State.unwind_txOf, if_true, TxChannel.unwind]
        split <;> exact id
      · simp [e]
  start s c g gs h _ _ _ := by
    refine h.of_parts (by simp) (fun d => ?_) (fun d => ?_) (by simp) (by simp) (by simp)
    · by_cases e : d = c
      · simpa [e] using fun ok : (s.ch c).CountsOk => ok.startMessage _
      · simp [e]
    · by_cases e : d = c <;> simp [e]
  finish s c h _ _ _ _ := by
    refine h.of_parts (by simp) (fun d => ?_) (fun d => ?_) (by simp) (by simp) (by simp)
    · by_cases e : d = c
      · simpa [e] using fun ok : (s.ch c).CountsOk => ok.ended
      · simp [e]
    · by_cases e : d = c
      · simp only [e, State.endMessage_txOf, if_true]
        split <;> exact id
      · simp [e]
  withhold s t c hs h _ _ _ := by
    refine h.of_parts (by simp) (fun d => ?_) (fun d => ?_) (by simp) (by simp) (by simp)
    · by_cases e : d = c
      · simpa [e] using fun ok : (t.ch c).CountsOk => ok.sublist (List.take_sublist _ _) (t.ch c).spilled (t.ch c).state _
      · simp [e]
    · by_cases e : d = c
      · simpa [e] using fun _ => hs.downstream c
      · simp [e]
  opens s c p h _ opens := h.modCh fun ok => ok.opens opens _
  spills s c p h _ _ _ _ fresh := State.CountsOk.modCh (s := s.raiseJob _)
    (h.of_parts id (fun _ => id) (fun _ => id) id id id) fun ok => ok.of_holds rfl rfl rfl fun e held => by
      rcases held with mem | ⟨q, push, rfl⟩ | close
      · exact .inl (.inl mem)
      · cases push
        exact .inr (by simp [fresh])
      · exact .inl (.inr (.inr close))
  fills s c e h _ _ _ _ holds := State.CountsOk.modCh (s := s.raiseJob _)
    (h.of_parts id (fun _ => id) (fun _ => id) id id id) fun ok => ok.of_holds rfl rfl rfl fun f held => by
      rcases held with mem | push | close
      · exact .inl (.inl mem)
      · exact .inl (.inr (.inl push))
      · cases close
        obtain ⟨u, hu, held⟩ := holds
        exact .inr (hu.consumed c e held)
  spilled s j p h _ _ := State.CountsOk.modCh (s := s.freeWires)
    (h.of_parts id (fun _ => id) (fun _ => id) id id id) fun ok => ok.sublist (List.drop_sublist _ _) _ _ _
  filled s j p es h _ _ _ small := State.CountsOk.modCh (s := s.freeWires)
    (h.of_parts id (fun _ => id) (fun _ => id) id id id) fun ok => ok.of_holds rfl rfl rfl fun e held => by
      rcases held with mem | push | close
      · exact .inr (small e mem)
      · exact .inl (.inr (.inl push))
      · exact .inl (.inr (.inr close))
  drained s c h _ _ := h.modCh fun ok => ok.sublist (List.Sublist.refl _) _ _ _

theorem countsOk_keptByEvents : KeptByEvents State.CountsOk :=
  countsOk_keptByOps.keptByEvents fun t d p h _ push => h.modCh fun ok => ok.of_holds rfl rfl rfl fun e held => by
    rcases held with mem | ⟨q, same, rfl⟩ | close
    · exact .inl (.inl mem)
    · cases same
      exact .inl (.inr (.inl ⟨p, push, rfl⟩))
    · exact .inl (.inr (.inr close))

/-- The Management Unit's counts through its taking of RESTART. -/
theorem MgmtUnit.CountsOk.restart {m : MgmtUnit} (ok : m.CountsOk) (x : Option (List Byte)) :
    { m.restart with unit := .responding, response := x }.CountsOk where
  credits := ok.credits
  notices := by simp [MgmtUnit.restart]
  timer := ok.timer
  collected := Collector.CountsOk.empty.scopes
  arguments := ⟨Collector.CountsOk.empty.args, nofun, Collector.CountsOk.empty.pos⟩

theorem countsOk_keptByCommands : KeptByCommands State.CountsOk where
  toKeptByEvents := countsOk_keptByEvents
  queues _ _ h := h.of_parts id (fun _ => id) (fun _ => id) id id id
  rests s v h e := by
    refine h.of_parts id (fun c ok => ?_) (fun _ => id) id id id
    change v[c].CountsOk
    rcases e c with same | ⟨-, x, eq, -⟩
    · rwa [same]
    · rw [eq]
      exact ok.sublist (List.Sublist.refl _) _ _ _
  configures s r _ _ h unit _ _ _ := by
    have args : r.ArgsOk := h.arguments.2.1 r unit
    refine h.modCh fun ok => ⟨ok.stats, ok.consumed, ?_, ok.timers.2⟩
    cases given : r.value Leaf.stallReload with
    | none => simpa [ChannelConfig.write, given] using ok.timers.1
    | some v => simpa [ChannelConfig.write, given] using args.stallReload_le given
  policy _ _ h _ := h.of_parts id (fun _ => id) (fun _ => id) id id id
  restart s r h := by
    refine countsOk_keptByEvents.restart s (P := State.CountsOk) ?_ fun t ht => ?_
    · exact h.of_parts id (fun _ => id) (fun _ => id) (fun ok => ok.restart _) id id
    · refine ht.of_parts (by simp) (fun c ok => ?_) (fun c ok => ?_) (fun ok => ?_) (fun _ => ?_) (by simp)
      · rw [State.restartBlocks_ch]
        split
        · exact ok.restart
        · exact ok
      · rw [State.restartBlocks_txOf]
        split
        · simp only [TxChannel.unwind]
          split <;> exact ok
        · exact ok
      · rw [State.restartBlocks_mgmt]
        exact ⟨ok.credits, ok.notices, ⟨ok.timer.1, Nat.zero_le _⟩, ok.collected, ok.arguments⟩
      · rw [State.restartBlocks_spill]
        exact Nat.zero_le _

theorem Channel.powerOn_countsOk : Channel.powerOn.CountsOk where
  stats := by simp [Channel.powerOn]
  consumed e held := by simp [Channel.Holds, Channel.powerOn] at held
  timers := by simp [Channel.powerOn, ChannelConfig.powerOn]

theorem MgmtUnit.powerOn_countsOk : MgmtUnit.powerOn.CountsOk where
  credits := Nat.zero_le _
  notices := by simp [MgmtUnit.powerOn]
  timer := by simp [MgmtUnit.powerOn]
  collected := Collector.CountsOk.empty.scopes
  arguments := ⟨Collector.CountsOk.empty.args, nofun, Collector.CountsOk.empty.pos⟩

theorem countsOk_powerOn (straps : Straps) : (State.powerOn straps).CountsOk := by
  refine (State.countsOk_iff _).2 ⟨⟨Nat.zero_le _, Nat.zero_le _, Nat.zero_le _⟩, fun c => ?_, fun c => ?_,
    MgmtUnit.powerOn_countsOk, Nat.zero_le _, fun i => ?_⟩
  · simpa [State.powerOn, State.ch] using Channel.powerOn_countsOk
  · simp [State.powerOn, State.txOf, TxChannel.powerOn]
  · simp [State.powerOn]

/-! ### The banks -/

theorem PolicyStore.release_entries (p : PolicyStore) (n m : BankName) :
    ((p.release n).bank m).entries = (p.bank m).entries := by
  have released : (p.release n).bank m = (p.setBank n { p.bank n with refs := (p.bank n).refs - 1 }).bank m := by
    simp only [PolicyStore.release]
    split <;> rfl
  rw [released, PolicyStore.bank_setBank]
  split
  · next e => rw [e]
  · rfl

theorem PolicyStore.bind_entries (p : PolicyStore) (n m : BankName) :
    ((p.bind n).bank m).entries = (p.bank m).entries := by
  rw [PolicyStore.bind, PolicyStore.bank_setBank]
  split
  · next e => rw [e]
  · rfl

theorem State.policyOk_iff (s : State) : s.PolicyOk ↔ ∀ n, (s.policy.bank n).Ordered :=
  ⟨fun ⟨a, b⟩ n => by cases n <;> assumption, fun h => ⟨h .a, h .b⟩⟩

/-- The order of a bank is that of its entries. -/
theorem Bank.Ordered.of_entries {a b : Bank} (h : a.Ordered) (e : b.entries = a.entries) : b.Ordered := by
  rw [Bank.Ordered, e]
  exact h

theorem State.PolicyOk.of_entries {s t : State} (h : s.PolicyOk)
    (e : ∀ n, (t.policy.bank n).entries = (s.policy.bank n).entries) : t.PolicyOk :=
  t.policyOk_iff.2 fun n => (s.policyOk_iff.1 h n).of_entries (e n)

theorem State.releaseBound_entries (s : State) (b : Option Binding) (n : BankName) :
    ((s.releaseBound b).policy.bank n).entries = (s.policy.bank n).entries := by
  cases b with
  | none => rfl
  | some b => exact s.policy.release_entries b.bank n

theorem policyOk_keptByOps : KeptByOps State.PolicyOk where
  wires _ _ _ _ _ _ _ h := h
  errors _ _ h _ := h
  counters _ _ h _ := h
  channels _ _ h _ := h
  receivers _ _ h _ := h
  transmitters _ _ h _ := h
  unit _ _ h _ := h
  port _ _ h _ := h
  hand _ _ _ h _ _ _ := h.of_entries fun _ => by rw [State.hand_policy]
  unwind s c a x h _ := h.of_entries fun n => by rw [State.unwind_policy, s.releaseBound_entries]
  start s c g gs h _ _ _ := h.of_entries fun n => by
    rw [State.startMessage_policy, PolicyStore.bind_entries]
    simp
  finish s c h _ _ _ _ := h.of_entries fun n => by rw [State.endMessage_policy, s.releaseBound_entries]
  withhold s t c _ h _ _ _ := h.of_entries fun _ => by rw [State.withhold_policy]
  opens _ _ _ h _ _ := h
  spills _ _ _ h _ _ _ _ _ := h
  fills _ _ _ h _ _ _ _ _ := h
  spilled _ _ _ h _ _ := h
  filled _ _ _ _ h _ _ _ _ := h
  drained _ _ h _ _ := h

theorem policyOk_keptByEvents : KeptByEvents State.PolicyOk :=
  policyOk_keptByOps.keptByEvents fun _ _ _ h _ _ => h

theorem policyOk_keptByCommands : KeptByCommands State.PolicyOk where
  toKeptByEvents := policyOk_keptByEvents
  queues _ _ h := h
  rests _ _ h _ := h
  configures _ _ _ _ h _ _ _ _ := h
  policy s p h e := by
    rw [State.policyOk_iff] at h ⊢
    intro n
    change (p.bank n).Ordered
    cases e with
    | stage _ b _ ordered =>
      rw [PolicyStore.setStaged, PolicyStore.bank_setBank]
      split
      · exact ordered (h _)
      · exact h n
    | commit =>
      cases n
      · exact h .a
      · exact h .b
    | copied =>
      change ((s.policy.setStaged _).bank n).Ordered
      rw [PolicyStore.setStaged, PolicyStore.bank_setBank]
      split
      · exact (h s.policy.active).of_entries rfl
      · exact h n
  restart s r h := by
    refine policyOk_keptByEvents.restart s (P := State.PolicyOk) h fun t ht => ht.of_entries fun n => ?_
    rw [State.restartBlocks_policy]
    cases n <;> rfl

theorem policyOk_powerOn (straps : Straps) : (State.powerOn straps).PolicyOk := by
  simp [State.PolicyOk, State.powerOn, PolicyStore.powerOn, Bank.Ordered, Bank.powerOn]

end Sys2Proof.Machine
end

section
/-! PROOFS. The obligations of the counts and of the banks' order. -/

section
open Sys2Proof Sys2Proof.Machine

/-- Settles O57, by the invariant kept by every operation the commands are made of. -/
theorem stepsKeepCountsOk : Obligations.StepsKeepCountsOk := fun _ _ =>
  countsOk_keptByCommands.step
    (fun straps _ => (countsOk_powerOn straps).of_parts id (fun _ => id) (fun _ => id) id id id)
    fun _ _ h => h.of_parts id (fun _ => id) (fun _ => id) id id id

/-- Settles O58, by the invariant kept by every operation the commands are made of. -/
theorem stepsKeepPolicyOk : Obligations.StepsKeepPolicyOk := fun _ _ =>
  policyOk_keptByCommands.step (fun straps _ => policyOk_powerOn straps) fun _ _ h => h

end
end

section
/-! PROOFS. The scope stacks: what each operation does to one channel's stack, and to the jobs that wait for channels. -/

namespace Sys2Proof.Machine

/-! ### One channel's stack -/

/-- The scope stack of a channel is in order (R16, R71 to R82). -/
structure Channel.StackOk (ch : Channel) : Prop where
  config : ch.config.windowSize ∈ [0, 2, 4, 8, 16] ∧ 1 ≤ ch.config.maxDepth ∧ ch.config.maxDepth ≤ 64
  window : ch.resident.length ≤ ch.config.windowSize
  depth : ch.resident.length + ch.spilled + (if ch.pendingPush = none then 0 else 1) ≤ ch.config.maxDepth
  spilled : ch.config.windowSize / 2 ∣ ch.spilled
  closed : ch.state.messageOpen = false → ch.resident = [] ∧ ch.spilled = 0 ∧ ch.pendingPush = none
  pushes : ∀ p, ch.pendingPush = some p → ch.state = .spillWait ∨
    (ch.state = .inMessage ∧ (p.refused = true ∨ ch.resident.length < ch.config.windowSize))

section Stack
variable {ch : Channel}

theorem Channel.StackOk.edits (ok : ch.StackOk) {x : Channel} (e : ch.Edits x) : x.StackOk := by
  obtain ⟨config, window, depth, spilled, closed, pushes⟩ := ok
  have length : x.resident.length ≤ ch.resident.length := by
    rcases e.stack with ⟨same, -⟩ | ⟨-, le, -⟩ <;> omega
  have push : x.pendingPush = ch.pendingPush ∨ x.pendingPush = none := by
    rcases e.stack with ⟨-, same⟩ | ⟨-, -, push⟩
    · exact .inl same
    · exact push
  refine ⟨e.config ▸ config, ?_, ?_, ?_, fun h => ?_, fun p hp => ?_⟩
  · rw [e.config]
    omega
  · rw [e.config, e.spilled]
    rcases push with same | none
    · rw [same]
      omega
    · rw [none, if_pos rfl]
      omega
  · rw [e.config, e.spilled]
    exact spilled
  · rw [e.state] at h
    obtain ⟨empty, none, gone⟩ := closed h
    have len : x.resident.length = 0 := by simpa [empty] using length
    exact ⟨List.eq_nil_of_length_eq_zero len, e.spilled ▸ none, push.elim (fun same => same ▸ gone) id⟩
  · rcases push with same | none
    · rw [e.state, e.config]
      rcases pushes p (same ▸ hp) with waits | ⟨run, refused | room⟩
      · exact .inl waits
      · exact .inr ⟨run, .inl refused⟩
      · exact .inr ⟨run, .inr (by omega)⟩
    · cases none.symm.trans hp

/-- An empty stack is in order in any state. -/
theorem Channel.StackOk.of_empty
    (config : ch.config.windowSize ∈ [0, 2, 4, 8, 16] ∧ 1 ≤ ch.config.maxDepth ∧ ch.config.maxDepth ≤ 64)
    (resident : ch.resident = []) (spilled : ch.spilled = 0) (push : ch.pendingPush = none) : ch.StackOk where
  config := config
  window := by simp [resident]
  depth := by simp [resident, spilled, push]
  spilled := by simp [spilled]
  closed _ := ⟨resident, spilled, push⟩
  pushes p hp := by cases push.symm.trans hp

/-- A scope opens within the window and the depth. -/
theorem Channel.StackOk.opens (ok : ch.StackOk) (run : ch.state = .inMessage) {p : PendingPush}
    (h : ch.MayOpen p.entry ∨ (ch.pendingPush = some p ∧ p.refused = false)) (n : Nat) :
    { ch with resident := ch.resident ++ [p.entry], outputDepth := n, pendingPush := none, parse := .header [] }.StackOk := by
  obtain ⟨config, window, depth, spilled, closed, pushes⟩ := ok
  have room : ch.resident.length < ch.config.windowSize ∧ ch.resident.length + 1 + ch.spilled ≤ ch.config.maxDepth := by
    rcases h with may | ⟨push, fresh⟩
    · have := may.depth
      simp only [Channel.depth] at this
      exact ⟨may.window, by omega⟩
    · rw [push, if_neg nofun] at depth
      rcases pushes p push with waits | ⟨-, refused | room⟩
      · cases run.symm.trans waits
      · cases refused.symm.trans fresh
      · exact ⟨room, by omega⟩
  refine ⟨config, ?_, ?_, spilled, fun h => ?_, nofun⟩
  · simpa using room.1
  · simpa using room.2
  · rw [run] at h
    cases h

theorem Channel.StackOk.half_le {n : Nat} (h : n ∈ [0, 2, 4, 8, 16]) (pos : 0 < n) : 0 < n / 2 ∧ n / 2 + n / 2 = n := by
  simp only [List.mem_cons, List.not_mem_nil, or_false] at h
  omega

/-- A push past a full window waits for its spill (R76). -/
theorem Channel.StackOk.spills (ok : ch.StackOk) {b : Backing} (passes : pushCheck ch b = none)
    (p : PendingPush) : { ch with state := .spillWait, pendingPush := some p }.StackOk := by
  obtain ⟨config, window, -, spilled, closed, -⟩ := ok
  have depth := pushCheck_none_depth passes
  exact ⟨config, window, depth, spilled, nofun, fun _ _ => .inl rfl⟩

/-- A spill moves half the window out (R77). -/
theorem Channel.StackOk.spillTaken (ok : ch.StackOk) {j : Job} (waits : ch.Awaits j) (state : ch.state = .spillWait) :
    (ch.spillTaken j.count).StackOk := by
  obtain ⟨config, window, depth, spilled, closed, pushes⟩ := ok
  obtain ⟨count, ⟨-, -, pos, full, -⟩ | ⟨-, fill, -⟩⟩ := waits
  · obtain ⟨half, whole⟩ := Channel.StackOk.half_le config.1 pos
    refine ⟨config, ?_, ?_, ?_, nofun, fun p hp => .inr ⟨rfl, .inr ?_⟩⟩
    · simp only [Channel.spillTaken, List.length_drop]
      omega
    · change (ch.resident.drop j.count).length + (ch.spilled + j.count) + (if ch.pendingPush = none then 0 else 1) ≤
        ch.config.maxDepth
      rw [List.length_drop]
      omega
    · simp only [Channel.spillTaken, count]
      exact spilled.add (dvd_refl _)
    · simp only [Channel.spillTaken, List.length_drop]
      omega
  · cases state.symm.trans fill

/-- A fill brings half a window back (R82). -/
theorem Channel.StackOk.fillTaken (ok : ch.StackOk) {j : Job} (waits : ch.Awaits j) (state : ch.state = .fillWait)
    {es : List ScopeEntry} (length : es.length = j.count) : (ch.fillTaken j.count es).StackOk := by
  obtain ⟨config, window, depth, spilled, closed, pushes⟩ := ok
  obtain ⟨count, ⟨-, spill, -⟩ | ⟨-, -, empty, none, start⟩⟩ := waits
  · cases state.symm.trans spill
  · refine ⟨config, ?_, ?_, ?_, nofun, fun p hp => ?_⟩
    · simp only [Channel.fillTaken]
      omega
    · simp only [Channel.fillTaken, none, if_pos] at depth ⊢
      omega
    · simp only [Channel.fillTaken, count]
      exact Nat.dvd_sub spilled (dvd_refl _)
    · cases none.symm.trans hp

/-- A refused push waits to be degraded (R78). -/
theorem Channel.StackOk.release (ok : ch.StackOk) {p : PendingPush} (push : ch.pendingPush = some p) :
    { ch with state := .inMessage, pendingPush := some { p with refused := true } }.StackOk := by
  obtain ⟨config, window, depth, spilled, -, -⟩ := ok
  rw [push] at depth
  refine ⟨config, window, depth, spilled, nofun, fun q hq => .inr ⟨rfl, .inl ?_⟩⟩
  cases hq
  rfl

theorem Channel.StackOk.withhold (ok : ch.StackOk) (run : ch.state = .inMessage) (none : ch.pendingPush = none)
    (n : Nat) (started : Bool) : { ch with outputStarted := started, resident := ch.resident.take n }.StackOk := by
  obtain ⟨config, window, depth, spilled, -, -⟩ := ok
  refine ⟨config, ?_, ?_, spilled, fun h => ?_, fun p hp => ?_⟩
  · simp only [List.length_take]
    omega
  · simp only [List.length_take]
    omega
  · rw [run] at h
    cases h
  · cases none.symm.trans hp

theorem Channel.StackOk.restart (ok : ch.StackOk) : ch.restart.StackOk := .of_empty ok.config rfl rfl rfl

theorem Channel.StackOk.unwound (ok : ch.StackOk) (flying : Bool) (x : DrainExit) : (ch.unwound flying x).StackOk :=
  .of_empty ok.config rfl rfl rfl

end Stack

/-! ### The jobs -/

/-- Each job belongs to a channel of its own that waits for it, or that drains while it is in flight. -/
structure State.JobsOk (s : State) : Prop where
  queued : ∀ j ∈ s.spill.queue, (s.ch j.channel).Awaits j
  flying : ∀ j ∈ s.spill.flying, (s.ch j.channel).state = .drain ∨ (s.ch j.channel).Awaits j
  once : ((s.spill.flying ++ s.spill.queue).map Job.channel).Nodup

/-- A channel in this state waits for no job and drains for none. -/
def ChannelState.jobless : ChannelState → Bool
  | .spillWait | .fillWait | .drain => false
  | .disabled | .held | .await | .inMessage => true

theorem Channel.Awaits.not_jobless {ch : Channel} {j : Job} (h : ch.Awaits j) : ch.state.jobless = false := by
  obtain ⟨-, ⟨-, spill, -⟩ | ⟨-, fill, -⟩⟩ := h
  · rw [spill]; rfl
  · rw [fill]; rfl

theorem Channel.Awaits.edits {ch x : Channel} {j : Job} (h : ch.Awaits j) (e : ch.Edits x) : x.Awaits j := by
  rcases e.stack with ⟨length, push⟩ | ⟨run, -⟩
  · obtain ⟨count, ⟨kind, state, pos, full, start⟩ | ⟨kind, state, empty, none, start⟩⟩ := h
    · exact ⟨by rw [e.config, count], .inl ⟨kind, e.state.trans state, e.config ▸ pos, by rw [length, full, e.config],
        by rw [start, e.spilled]⟩⟩
    · refine ⟨by rw [e.config, count], .inr ⟨kind, e.state.trans state, ?_, push.trans none, by rw [start, e.spilled]⟩⟩
      exact List.eq_nil_of_length_eq_zero (by rw [length, empty]; rfl)
  · have := h.not_jobless
    rw [run] at this
    cases this

section Jobs
variable {s t : State} {c : ChannelNo}

/-- The jobs of a state. -/
def SpillPort.jobs (p : SpillPort) : List Job := p.flying ++ p.queue

/-- A channel that waits for no job and drains for none has none. -/
theorem State.JobsOk.none_of (h : s.JobsOk) (idle : (s.ch c).state.jobless = true) : ∀ j ∈ s.spill.jobs, j.channel ≠ c := by
  rintro j mem rfl
  have waits : (s.ch j.channel).state = .drain ∨ (s.ch j.channel).Awaits j := by
    rcases List.mem_append.1 mem with mem | mem
    · exact h.flying j mem
    · exact .inr (h.queued j mem)
  rcases waits with drain | waits
  · rw [drain] at idle
    cases idle
  · cases waits.not_jobless.symm.trans idle

/-- The jobs stay in order where their channels stay as they are. -/
theorem State.JobsOk.of_same (h : s.JobsOk) (queue : t.spill.queue = s.spill.queue)
    (flying : t.spill.flying = s.spill.flying) (off : ∀ j ∈ s.spill.jobs, t.ch j.channel = s.ch j.channel) : t.JobsOk where
  queued j mem := by
    rw [queue] at mem
    rw [off j (List.mem_append_right _ mem)]
    exact h.queued j mem
  flying j mem := by
    rw [flying] at mem
    rw [off j (List.mem_append_left _ mem)]
    exact h.flying j mem
  once := by
    rw [queue, flying]
    exact h.once

/-- The jobs stay in order where one channel without a job changes. -/
theorem State.JobsOk.of_idle (h : s.JobsOk) (idle : (s.ch c).state.jobless = true) (queue : t.spill.queue = s.spill.queue)
    (flying : t.spill.flying = s.spill.flying) (off : ∀ d, d ≠ c → t.ch d = s.ch d) : t.JobsOk :=
  h.of_same queue flying fun j mem => off _ (h.none_of idle j mem)

/-- A job raised for a channel without one. -/
theorem State.JobsOk.raise (h : s.JobsOk) {j : Job} (idle : (s.ch j.channel).state.jobless = true)
    {f : Channel → Channel} (waits : (f (s.ch j.channel)).Awaits j) : ((s.raiseJob j).modCh j.channel f).JobsOk := by
  have none := h.none_of idle
  have off : ∀ i ∈ s.spill.jobs, ((s.raiseJob j).modCh j.channel f).ch i.channel = s.ch i.channel := by
    intro i mem
    simp [none i mem]
  refine ⟨fun i mem => ?_, fun i mem => ?_, ?_⟩
  · rcases List.mem_append.1 (show i ∈ s.spill.queue ++ [j] from mem) with mem | mem
    · rw [off i (List.mem_append_right _ mem)]
      exact h.queued i mem
    · obtain rfl := List.mem_singleton.1 mem
      simpa using waits
  · rw [off i (List.mem_append_left _ mem)]
    exact h.flying i mem
  · change ((s.spill.flying ++ (s.spill.queue ++ [j])).map Job.channel).Nodup
    rw [← List.append_assoc, List.map_append]
    refine List.Nodup.append h.once (List.nodup_singleton _) ?_
    intro d mem single
    obtain ⟨i, hi, rfl⟩ := List.mem_map.1 mem
    exact none i hi (by simpa using single)

/-- The job in flight is over, and its channel goes on. -/
theorem State.JobsOk.landed (h : s.JobsOk) {j : Job} {p : SelectPeriod} (flies : s.spill.inFlight = some (.data j p))
    (f : Channel → Channel) : (s.freeWires.modCh j.channel f).JobsOk := by
  have flying : s.spill.flying = [j] := by simp [SpillPort.flying, flies]
  have once := h.once
  rw [flying, List.map_append, List.map_singleton, List.singleton_append, List.nodup_cons] at once
  refine ⟨fun i mem => ?_, nofun, by simpa [State.freeWires, SpillPort.flying] using once.2⟩
  have ne : i.channel ≠ j.channel := fun e => once.1 (e ▸ List.mem_map_of_mem mem)
  have off : (s.freeWires.modCh j.channel f).ch i.channel = s.ch i.channel := by simp [ne, State.freeWires]
  rw [off]
  exact h.queued i mem

end Jobs

/-! ### The invariant while the part runs -/

/-- The scope stacks and the jobs are in order, whatever the phase. -/
structure State.StacksRun (s : State) : Prop where
  stack : ∀ c, (s.ch c).StackOk
  jobs : s.JobsOk
  management : (s.ch s.straps.mgmtSel).state = .held

/-- In PROVISIONING no channel has a message (R15, R166). -/
def State.Provisions (s : State) : Prop :=
  s.mgmt.phase = .provisioning → ∀ c, (s.ch c).state = .held ∨ (s.ch c).state = .disabled

theorem State.stacksOk_iff (s : State) : s.StacksOk ↔ s.StacksRun ∧ s.Provisions := by
  constructor
  · rintro ⟨config, window, depth, spilled, closed, pushes, queued, flying, once, provisioning, management⟩
    exact ⟨⟨fun c => ⟨config c, window c, depth c, spilled c, closed c, pushes c⟩, ⟨queued, flying, once⟩, management⟩,
      provisioning⟩
  · rintro ⟨⟨stack, ⟨queued, flying, once⟩, management⟩, provisioning⟩
    exact ⟨fun c => (stack c).config, fun c => (stack c).window, fun c => (stack c).depth, fun c => (stack c).spilled,
      fun c => (stack c).closed, fun c => (stack c).pushes, queued, flying, once, provisioning, management⟩

section Run
variable {s t : State} {c : ChannelNo}

/-- The stacks stay in order where neither a channel record nor a job changes. -/
theorem State.StacksRun.of_same (h : s.StacksRun) (straps : t.straps = s.straps) (ch : ∀ c, t.ch c = s.ch c)
    (queue : t.spill.queue = s.spill.queue) (flying : t.spill.flying = s.spill.flying) : t.StacksRun where
  stack c := ch c ▸ h.stack c
  jobs := h.jobs.of_same queue flying fun j _ => ch j.channel
  management := by rw [straps, ch]; exact h.management

/-- A channel that is not HELD is a data channel. -/
theorem State.StacksRun.ne_mgmt (h : s.StacksRun) (state : (s.ch c).state ≠ .held) : s.straps.mgmtSel ≠ c := by
  rintro rfl
  exact state h.management

/-- The stacks stay in order where one data channel's record changes with its stack in order, and the jobs' channels do. -/
theorem State.StacksRun.set (h : s.StacksRun) (data : s.straps.mgmtSel ≠ c) (straps : t.straps = s.straps)
    (off : ∀ d, d ≠ c → t.ch d = s.ch d) (stack : (t.ch c).StackOk) (jobs : t.JobsOk) : t.StacksRun where
  stack d := by
    by_cases e : d = c
    · exact e ▸ stack
    · exact off d e ▸ h.stack d
  jobs := jobs
  management := by rw [straps, off _ data]; exact h.management

theorem State.StacksRun.unwind (h : s.StacksRun) (isOpen : (s.ch c).state.messageOpen = true) (a : Bool)
    (x : DrainExit) : (s.unwind c a x).StacksRun := by
  have notHeld : (s.ch c).state ≠ .held := by
    intro held
    rw [held] at isOpen
    cases isOpen
  refine h.set (h.ne_mgmt notHeld) (by simp) (fun d e => by simp [e]) ?_ ⟨fun j mem => ?_, fun j mem => ?_, ?_⟩
  · simpa using (h.stack c).unwound _ x
  · rw [State.unwind_spill] at mem
    obtain ⟨mem, ne⟩ := List.mem_filter.1 mem
    rw [State.unwind_ch, if_neg (by simpa using ne)]
    exact h.jobs.queued j mem
  · rw [State.unwind_spill] at mem
    rw [State.unwind_ch]
    split
    · next same =>
      have carries : s.spill.carries c = true := by
        simp only [SpillPort.flying] at mem
        simp only [SpillPort.carries]
        split at mem
        · simpa [List.mem_singleton.1 mem] using same
        all_goals cases mem
      exact .inl (by simp [Channel.unwound, carries])
    · exact h.jobs.flying j mem
  · rw [State.unwind_spill]
    exact h.jobs.once.sublist (((List.Sublist.refl _).append List.filter_sublist).map _)

end Run

theorem stacksRun_keptByOps : KeptByOps State.StacksRun where
  wires _ _ _ _ _ _ _ h := h.of_same rfl (fun _ => rfl) rfl rfl
  errors _ _ h _ := h.of_same rfl (fun _ => rfl) rfl rfl
  counters _ _ h _ := h.of_same rfl (fun _ => rfl) rfl rfl
  channels s v h e :=
    { stack := fun c => (h.stack c).edits (e c)
      jobs :=
        { queued := fun j mem => (h.jobs.queued j mem).edits (e _)
          flying := fun j mem => (h.jobs.flying j mem).imp (fun drain => (e _).state.trans drain) fun w => w.edits (e _)
          once := h.jobs.once }
      management := (e _).state.trans h.management }
  receivers _ _ h _ := h.of_same rfl (fun _ => rfl) rfl rfl
  transmitters _ _ h _ := h.of_same rfl (fun _ => rfl) rfl rfl
  unit _ _ h _ := h.of_same rfl (fun _ => rfl) rfl rfl
  port s p h e :=
    { stack := h.stack
      jobs :=
        { queued := fun j mem => h.jobs.queued j (e.queue mem)
          flying := fun j mem => (List.mem_append.1 (e.flying mem)).elim (h.jobs.flying j) fun q => .inr (h.jobs.queued j q)
          once := by
            obtain ⟨l, perm, sub⟩ := e.once
            exact (perm.map _).nodup_iff.1 (h.jobs.once.sublist (sub.map _)) }
      management := h.management }
  hand s c u h run _ _ := by
    refine h.set (h.ne_mgmt (c := c) (by simp [run])) (by simp) (fun d e => by simp [e]) ?_
      (h.jobs.of_idle (c := c) (by rw [run]; rfl) (by simp) (by simp) fun d e => by simp [e])
    obtain ⟨config, window, depth, spilled, closed, pushes⟩ := h.stack c
    simpa using (⟨config, window, depth, spilled, closed, pushes⟩ : Channel.StackOk { s.ch c with outputStarted := true })
  unwind s c a x h isOpen := h.unwind isOpen a x
  start s c g gs h await _ _ := by
    refine h.set (h.ne_mgmt (c := c) (by simp [await])) (by simp) (fun d e => by simp [e]) ?_
      (h.jobs.of_idle (c := c) (by rw [await]; rfl) (by simp) (by simp) fun d e => by simp [e])
    obtain ⟨-, -, none⟩ := (h.stack c).closed (by rw [await]; rfl)
    simpa using Channel.StackOk.of_empty (ch := (s.ch c).startMessage s.policy.active) (h.stack c).config rfl rfl none
  finish s c h run empty none push := by
    refine h.set (h.ne_mgmt (c := c) (by simp [run])) (by simp) (fun d e => by simp [e]) ?_
      (h.jobs.of_idle (c := c) (by rw [run]; rfl) (by simp) (by simp) fun d e => by simp [e])
    have noPush : (s.ch c).pendingPush = Option.none := by
      rcases push with none | ⟨u, hu, await, same⟩
      · exact none
      · rw [← same]
        exact ((hu.stack c).closed (by rw [await]; rfl)).2.2
    simpa using Channel.StackOk.of_empty (ch := (s.ch c).ended) (h.stack c).config empty none noPush
  withhold s t c _ h _ run none := by
    refine h.set (h.ne_mgmt (c := c) (by simp [run])) (by simp) (fun d e => by simp [e]) ?_
      (h.jobs.of_idle (c := c) (by rw [run]; rfl) (by simp) (by simp) fun d e => by simp [e])
    simpa using (h.stack c).withhold run none _ _
  opens s c p h run opens := by
    refine h.set (h.ne_mgmt (c := c) (by simp [run])) (by simp) (fun d e => by simp [e]) ?_
      (h.jobs.of_idle (c := c) (by rw [run]; rfl) (by simp) (by simp) fun d e => by simp [e])
    simpa using (h.stack c).opens run opens _
  spills s c p h run none passes full _ := by
    have ok := h.stack c
    have size : (s.ch c).resident.length = (s.ch c).config.windowSize :=
      le_antisymm ok.window (of_decide_eq_true full)
    have pos : 0 < (s.ch c).config.windowSize := by
      simp only [pushCheck] at passes
      split at passes
      · cases passes
      · split at passes
        · cases passes
        · next _ ne => exact Nat.pos_of_ne_zero (by simpa using ne)
    refine h.set (h.ne_mgmt (c := c) (by simp [run])) (by simp) (fun d e => by simp [e]) ?_
      (h.jobs.raise (by rw [run]; rfl) ⟨rfl, .inl ⟨rfl, rfl, pos, size, rfl⟩⟩)
    simpa using ok.spills passes p
  fills s c e h run none empty deep _ := by
    obtain ⟨config, window, depth, spilled, closed, pushes⟩ := h.stack c
    have half := Nat.le_of_dvd deep spilled
    refine h.set (h.ne_mgmt (c := c) (by simp [run])) (by simp) (fun d e => by simp [e]) ?_
      (h.jobs.raise (by rw [run]; rfl) ⟨rfl, .inr ⟨rfl, rfl, empty, none, Nat.sub_add_cancel half⟩⟩)
    have ok : Channel.StackOk { s.ch c with state := .fillWait, parse := .closePending e } :=
      ⟨config, window, depth, spilled, nofun, fun p hp => by cases none.symm.trans hp⟩
    simpa using ok
  spilled s j p h flies waits := by
    refine h.set (h.ne_mgmt (c := j.channel) (by simp [waits])) (by simp [State.freeWires])
      (fun d e => by simp [e, State.freeWires]) ?_ (h.jobs.landed flies _)
    have awaits : (s.ch j.channel).Awaits j := by
      rcases h.jobs.flying j (by simp [SpillPort.flying, flies]) with drain | awaits
      · cases waits.symm.trans drain
      · exact awaits
    simpa [State.freeWires] using (h.stack j.channel).spillTaken awaits waits
  filled s j p es h flies waits length _ := by
    refine h.set (h.ne_mgmt (c := j.channel) (by simp [waits])) (by simp [State.freeWires])
      (fun d e => by simp [e, State.freeWires]) ?_ (h.jobs.landed flies _)
    have awaits : (s.ch j.channel).Awaits j := by
      rcases h.jobs.flying j (by simp [SpillPort.flying, flies]) with drain | awaits
      · cases waits.symm.trans drain
      · exact awaits
    simpa [State.freeWires] using (h.stack j.channel).fillTaken awaits waits length
  drained s c h idle drain := by
    obtain ⟨empty, none, push⟩ := (h.stack c).closed (by rw [drain]; rfl)
    refine h.set (h.ne_mgmt (c := c) (by simp [drain])) (by simp) (fun d e => by simp [e]) ?_ ?_
    · simpa using Channel.StackOk.of_empty (ch := { s.ch c with state := (s.ch c).drainExit.toState })
        (h.stack c).config empty none push
    · refine h.jobs.of_same rfl rfl fun j mem => ?_
      have ne : j.channel ≠ c := by
        rintro rfl
        have queued : j ∈ s.spill.queue := by simpa [SpillPort.jobs, SpillPort.flying, idle] using mem
        obtain ⟨-, ⟨-, spill, -⟩ | ⟨-, fill, -⟩⟩ := h.jobs.queued j queued
        · cases drain.symm.trans spill
        · cases drain.symm.trans fill
      simp [ne]

end Sys2Proof.Machine
end

section
/-! PROOFS. The scope stacks through the refusal of the jobs, the phase, and the commands. -/

namespace Sys2Proof.Machine

/-! ### The refusal of the queued jobs (R98) -/

/-- While the queued jobs are refused, the queue is empty, and the job in flight is none of them. -/
structure State.Refusing (flying : List Job) (s : State) : Prop where
  run : s.StacksRun
  queue : s.spill.queue = []
  flying : s.spill.flying = flying

@[simp] theorem State.fault_spill (s : State) (c : ChannelNo) (k : FaultKind) (r : Reason) (a : Bool) :
    (s.fault c k r a).spill = { s.spill with queue := s.spill.queue.filter fun j => j.channel != c } := by
  simp [State.fault]

/-- A refusal empties no wires: it touches the queue only. -/
theorem State.refuseJob_spill (s : State) (j : Job) (empty : s.spill.queue = []) : (s.refuseJob j).spill = s.spill := by
  have faulted : (s.fault j.channel .noBacking .none true).spill = s.spill := by
    rw [State.fault_spill, empty]
    simp only [List.filter_nil]
    rw [← empty]
  simp only [State.refuseJob]
  split
  · split
    · rfl
    · split
      · rfl
      · exact faulted
  · exact faulted
  all_goals rfl

theorem State.Refusing.release {s : State} {fs : List Job} (h : s.Refusing fs) {c : ChannelNo} {p : PendingPush}
    (away : c ∉ fs.map Job.channel) (waits : (s.ch c).state = .spillWait) (push : (s.ch c).pendingPush = some p) :
    (s.modCh c fun ch => { ch with state := .inMessage, pendingPush := some { p with refused := true } }).StacksRun := by
  obtain ⟨run, queue, flying⟩ := h
  refine run.set (run.ne_mgmt (c := c) (by simp [waits])) (by simp) (fun d e => by simp [e]) ?_ ?_
  · simpa using (run.stack c).release push
  · refine run.jobs.of_same rfl rfl fun j mem => ?_
    rw [SpillPort.jobs, queue, flying, List.append_nil] at mem
    have ne : j.channel ≠ c := fun e => away (e ▸ List.mem_map_of_mem mem)
    simp [ne]

theorem State.Refusing.refuseJob {s : State} {fs : List Job} (h : s.Refusing fs) {j : Job}
    (away : j.channel ∉ fs.map Job.channel) : (s.refuseJob j).Refusing fs := by
  have spill := s.refuseJob_spill j h.queue
  refine ⟨?_, by rw [spill, h.queue], by rw [spill, h.flying]⟩
  simp only [State.refuseJob]
  split
  · next waits =>
    split
    · exact h.run
    · next p push =>
      split
      · exact h.release away waits push
      · exact stacksRun_keptByOps.fault h.run (by rw [waits]; rfl) _ _ _
  · next waits => exact stacksRun_keptByOps.fault h.run (by rw [waits]; rfl) _ _ _
  all_goals exact h.run

theorem State.Refusing.refuseAll {fs : List Job} : ∀ {l : List Job} {s : State}, s.Refusing fs →
    (∀ j ∈ l, j.channel ∉ fs.map Job.channel) → (l.foldl State.refuseJob s).Refusing fs
  | [], _, h, _ => h
  | j :: _, _, h, away =>
    (h.refuseJob (away j List.mem_cons_self)).refuseAll fun i mem => away i (List.mem_cons_of_mem j mem)

theorem stacksRun_keptByEvents : KeptByEvents State.StacksRun where
  toKeptByOps := stacksRun_keptByOps
  refused s h := by
    have emptied : (s.modSpill fun p => { p with queue := [] }).Refusing s.spill.flying := by
      refine ⟨⟨h.stack, ⟨nofun, h.jobs.flying, ?_⟩, h.management⟩, rfl, rfl⟩
      exact h.jobs.once.sublist (((List.Sublist.refl _).append (List.nil_sublist _)).map _)
    refine (emptied.refuseAll fun j mem inFlight => ?_).run
    have once := h.jobs.once
    rw [List.map_append] at once
    exact List.disjoint_of_nodup_append once inFlight (List.mem_map_of_mem mem)

/-! ### The phase -/

section Phase
variable {s t : State} {c : ChannelNo}

/-- With a channel that is neither HELD nor DISABLED the part is OPERATING. -/
theorem State.Provisions.operating (h : s.Provisions) (held : (s.ch c).state ≠ .held)
    (disabled : (s.ch c).state ≠ .disabled) : s.mgmt.phase ≠ .provisioning :=
  fun phase => (h phase c).elim held disabled

/-- The phase's rule stands where a channel has a message and the phase stays. -/
theorem State.Provisions.of_running (h : s.Provisions) (held : (s.ch c).state ≠ .held)
    (disabled : (s.ch c).state ≠ .disabled) (phase : t.mgmt.phase = s.mgmt.phase) : t.Provisions := fun provisioning =>
  absurd (phase ▸ provisioning) (h.operating held disabled)

theorem State.Provisions.of_open (h : s.Provisions) (isOpen : (s.ch c).state.messageOpen = true)
    (phase : t.mgmt.phase = s.mgmt.phase) : t.Provisions := by
  refine h.of_running (c := c) (fun e => ?_) (fun e => ?_) phase
  · rw [e] at isOpen
    cases isOpen
  · rw [e] at isOpen
    cases isOpen

end Phase

theorem provisions_keptByOps : KeptByOps State.Provisions where
  wires _ _ _ _ _ _ _ h := h
  errors _ _ h _ := h
  counters _ _ h _ := h
  channels s v h e phase c := by
    change v[c].state = _ ∨ v[c].state = _
    rw [(e c).state]
    exact h phase c
  receivers _ _ h _ := h
  transmitters _ _ h _ := h
  unit s m h e phase := by
    rcases e.phase with same | operating
    · exact h (same ▸ phase)
    · cases operating.symm.trans phase
  port _ _ h _ := h
  hand s c u h run _ _ := h.of_open (c := c) (by rw [run]; rfl) (by simp)
  unwind s c a x h isOpen := h.of_open isOpen (by simp)
  start s c g gs h await _ _ := h.of_running (c := c) (by simp [await]) (by simp [await]) (by simp)
  finish s c h run _ _ _ := h.of_open (c := c) (by rw [run]; rfl) (by simp)
  withhold s t c _ h _ run _ := h.of_open (c := c) (by rw [run]; rfl) (by simp)
  opens s c p h run _ := h.of_open (c := c) (by rw [run]; rfl) rfl
  spills s c p h run _ _ _ _ := h.of_open (c := c) (by rw [run]; rfl) rfl
  fills s c e h run _ _ _ _ := h.of_open (c := c) (by rw [run]; rfl) rfl
  spilled s j p h _ waits := h.of_open (c := j.channel) (by rw [waits]; rfl) rfl
  filled s j p es h _ waits _ _ := h.of_open (c := j.channel) (by rw [waits]; rfl) rfl
  drained s c h _ drain := h.of_running (c := c) (by simp [drain]) (by simp [drain]) rfl

theorem provisions_keptByEvents : KeptByEvents State.Provisions :=
  provisions_keptByOps.keptByEvents fun t d p h waits _ => h.of_open (c := d) (by rw [waits]; rfl) rfl

/-! ### Two properties at once -/

theorem KeptByOps.and {P Q : State → Prop} (K : KeptByOps P) (L : KeptByOps Q) : KeptByOps fun s => P s ∧ Q s where
  wires s u v p t d x h := ⟨K.wires s u v p t d x h.1, L.wires s u v p t d x h.2⟩
  errors s e h k := ⟨K.errors s e h.1 k, L.errors s e h.2 k⟩
  counters s v h k := ⟨K.counters s v h.1 k, L.counters s v h.2 k⟩
  channels s v h k := ⟨K.channels s v h.1 k, L.channels s v h.2 k⟩
  receivers s v h k := ⟨K.receivers s v h.1 k, L.receivers s v h.2 k⟩
  transmitters s v h k := ⟨K.transmitters s v h.1 k, L.transmitters s v h.2 k⟩
  unit s m h k := ⟨K.unit s m h.1 k, L.unit s m h.2 k⟩
  port s p h k := ⟨K.port s p h.1 k, L.port s p h.2 k⟩
  hand s c u h run len room := ⟨K.hand s c u h.1 run len room, L.hand s c u h.2 run len room⟩
  unwind s c a x h isOpen := ⟨K.unwind s c a x h.1 isOpen, L.unwind s c a x h.2 isOpen⟩
  start s c g gs h await data front := ⟨K.start s c g gs h.1 await data front, L.start s c g gs h.2 await data front⟩
  finish s c h run empty none push :=
    ⟨K.finish s c h.1 run empty none (push.imp_right fun ⟨u, hu, rest⟩ => ⟨u, hu.1, rest⟩),
      L.finish s c h.2 run empty none (push.imp_right fun ⟨u, hu, rest⟩ => ⟨u, hu.2, rest⟩)⟩
  withhold s t c hs ht run later none :=
    ⟨K.withhold s t c hs.1 ht.1 run later none, L.withhold s t c hs.2 ht.2 run later none⟩
  opens s c p h run may := ⟨K.opens s c p h.1 run may, L.opens s c p h.2 run may⟩
  spills s c p h run none passes full fresh :=
    ⟨K.spills s c p h.1 run none passes full fresh, L.spills s c p h.2 run none passes full fresh⟩
  fills s c e h run none empty deep holds :=
    ⟨K.fills s c e h.1 run none empty deep (holds.imp fun _ hu => ⟨hu.1.1, hu.2⟩),
      L.fills s c e h.2 run none empty deep (holds.imp fun _ hu => ⟨hu.1.2, hu.2⟩)⟩
  spilled s j p h flies waits := ⟨K.spilled s j p h.1 flies waits, L.spilled s j p h.2 flies waits⟩
  filled s j p es h flies waits length small :=
    ⟨K.filled s j p es h.1 flies waits length small, L.filled s j p es h.2 flies waits length small⟩
  drained s c h idle drain := ⟨K.drained s c h.1 idle drain, L.drained s c h.2 idle drain⟩

theorem KeptByEvents.and {P Q : State → Prop} (K : KeptByEvents P) (L : KeptByEvents Q) :
    KeptByEvents fun s => P s ∧ Q s where
  toKeptByOps := K.toKeptByOps.and L.toKeptByOps
  refused s h := ⟨K.refused s h.1, L.refused s h.2⟩

/-! ### The commands -/

/-- An argument that a record passing the checks gives is in its type's range (R145). -/
theorem CommandRecord.inRange_of_check {r : CommandRecord} {required optional : List RecType} {t : RecType} {v : Nat}
    (check : r.check required optional = none) (given : r.value t = some v) : argInRange t v = true := by
  simp only [CommandRecord.check] at check
  split at check
  · cases check
  · split at check
    · cases check
    · next args =>
      simp only [CommandRecord.badArguments, Bool.or_eq_true, List.any_eq_true, not_or, not_exists, not_and,
        Bool.not_eq_true', Bool.not_eq_false] at args
      obtain ⟨a, mem, rfl, rfl⟩ := r.exists_arg_of_value given
      exact (args.1.2 a mem).2

theorem argInRange_windowSize (v : Nat) :
    argInRange Leaf.windowSize v = (v == 0 || v == 2 || v == 4 || v == 8 || v == 16) := rfl

theorem argInRange_maxDepth (v : Nat) : argInRange Leaf.maxDepth v = (decide (1 ≤ v) && decide (v ≤ 64)) := rfl

/-- A configuration written from a record that passes the checks has its sizes in range (R14). -/
theorem ChannelConfig.write_ok {f : ChannelConfig} {r : CommandRecord} {required optional : List RecType}
    (check : r.check required optional = none)
    (ok : f.windowSize ∈ [0, 2, 4, 8, 16] ∧ 1 ≤ f.maxDepth ∧ f.maxDepth ≤ 64) :
    (f.write r).windowSize ∈ [0, 2, 4, 8, 16] ∧ 1 ≤ (f.write r).maxDepth ∧ (f.write r).maxDepth ≤ 64 := by
  obtain ⟨window, depth⟩ := ok
  constructor
  · cases given : r.value Leaf.windowSize with
    | none => simpa [ChannelConfig.write, given] using window
    | some v =>
      have range := CommandRecord.inRange_of_check check given
      rw [argInRange_windowSize] at range
      simpa [ChannelConfig.write, given, or_assoc] using range
  · cases given : r.value Leaf.maxDepth with
    | none => simpa [ChannelConfig.write, given] using depth
    | some v =>
      have range := CommandRecord.inRange_of_check check given
      rw [argInRange_maxDepth] at range
      simpa [ChannelConfig.write, given] using range

/-- Without a locked argument the sizes stay (R149). -/
theorem ChannelConfig.write_unlocked {f : ChannelConfig} {r : CommandRecord} (unlocked : r.setsLocked = false) :
    (f.write r).windowSize = f.windowSize ∧ (f.write r).maxDepth = f.maxDepth := by
  simp only [CommandRecord.setsLocked, CommandRecord.has, Bool.or_eq_false_iff, Option.isSome_eq_false_iff,
    Option.isNone_iff_eq_none] at unlocked
  obtain ⟨⟨window, depth⟩, -⟩ := unlocked
  simp [ChannelConfig.write, CommandRecord.value, window, depth]

section Commands
variable {s : State} {c : ChannelNo}

/-- The stacks stay in order where channels without a message go from one resting state to another. -/
theorem State.StacksRun.rests (h : s.StacksRun) {v : Vector Channel 16} (e : ∀ c : ChannelNo, v[c] = s.ch c ∨
    (s.isData c = true ∧ ∃ x, v[c] = { s.ch c with state := x } ∧ (s.ch c).state ∈ [.held, .await, .disabled] ∧
      x ∈ [.held, .await, .disabled])) : State.StacksRun { s with table := v } where
  stack c := by
    change v[c].StackOk
    rcases e c with same | ⟨-, x, eq, old, -⟩
    · rw [same]
      exact h.stack c
    · rw [eq]
      obtain ⟨resident, spilled, push⟩ := (h.stack c).closed (ChannelState.rests_closed old)
      exact .of_empty (h.stack c).config resident spilled push
  jobs := by
    refine h.jobs.of_same rfl rfl fun j mem => ?_
    rcases e j.channel with same | ⟨-, x, -, old, -⟩
    · exact same
    · have idle : (s.ch j.channel).state.jobless = true := by
        revert old
        cases (s.ch j.channel).state <;> decide
      exact absurd rfl (h.jobs.none_of idle j mem)
  management := by
    rcases e s.straps.mgmtSel with same | ⟨data, -⟩
    · exact (congrArg Channel.state same).trans h.management
    · simp [State.isData] at data

/-- The stacks stay in order where CHANNEL SET writes a configuration: while messages may be open it leaves the sizes. -/
theorem State.StacksRun.configures (h : s.StacksRun) (provisions : s.Provisions) {r : CommandRecord}
    {required optional : List RecType} (check : r.check required optional = none) (data : s.isData r.channel = true)
    (unlocked : s.mgmt.phase = .operating → r.setsLocked = false) :
    (s.modCh r.channel fun ch => { ch with config := ch.config.write r }).StacksRun := by
  have ne : s.straps.mgmtSel ≠ r.channel := fun e => by simp [State.isData, ← e] at data
  cases phase : s.mgmt.phase with
  | provisioning =>
    have rest := provisions phase r.channel
    have closed : (s.ch r.channel).state.messageOpen = false := by rcases rest with e | e <;> rw [e] <;> rfl
    have idle : (s.ch r.channel).state.jobless = true := by rcases rest with e | e <;> rw [e] <;> rfl
    obtain ⟨resident, spilled, push⟩ := (h.stack r.channel).closed closed
    refine h.set ne (by simp) (fun d e => by simp [e]) ?_
      (h.jobs.of_idle idle (by simp) (by simp) fun d e => by simp [e])
    simpa using Channel.StackOk.of_empty
      (ch := { s.ch r.channel with config := (s.ch r.channel).config.write r })
      (ChannelConfig.write_ok check (h.stack r.channel).config) resident spilled push
  | operating =>
    obtain ⟨window, depth⟩ := ChannelConfig.write_unlocked (f := (s.ch r.channel).config) (unlocked phase)
    have waits : ∀ d j, (s.ch d).Awaits j →
        ((s.modCh r.channel fun ch => { ch with config := ch.config.write r }).ch d).Awaits j := by
      intro d j awaits
      by_cases e : d = r.channel
      · subst e
        simpa [Channel.Awaits, window] using awaits
      · simpa [e] using awaits
    have state : ∀ d, ((s.modCh r.channel fun ch => { ch with config := ch.config.write r }).ch d).state =
        (s.ch d).state := by
      intro d
      by_cases e : d = r.channel
      · simp [e]
      · simp [e]
    refine h.set ne (by simp) (fun d e => by simp [e]) ?_
      ⟨fun j mem => waits _ _ (h.jobs.queued j mem), fun j mem => ?_, h.jobs.once⟩
    · obtain ⟨config, window', depth', spilled, closed, pushes⟩ := h.stack r.channel
      have ok : Channel.StackOk { s.ch r.channel with config := (s.ch r.channel).config.write r } :=
        ⟨ChannelConfig.write_ok check config, window ▸ window', depth ▸ depth', window ▸ spilled, closed, window ▸ pushes⟩
      simpa using ok
    · exact (h.jobs.flying j mem).imp ((state _).trans ·) (waits _ _)

/-- After RESTART every stack is empty and no job is left (R34, R101). -/
theorem State.StacksRun.restartBlocks (h : s.StacksRun) : s.restartBlocks.StacksRun where
  stack c := by
    rw [State.restartBlocks_ch]
    split
    · exact (h.stack c).restart
    · exact h.stack c
  jobs := by
    refine ⟨fun j mem => ?_, fun j mem => ?_, ?_⟩
    · rw [State.restartBlocks_spill] at mem
      cases mem
    · rw [State.restartBlocks_spill] at mem
      cases mem
    · rw [State.restartBlocks_spill]
      exact List.nodup_nil
  management := by
    rw [State.restartBlocks_straps, State.restartBlocks_ch]
    simp [State.isData, h.management]

theorem State.StacksRun.provisions_restartBlocks (h : s.StacksRun) : s.restartBlocks.Provisions := by
  intro _ c
  rw [State.restartBlocks_ch]
  split
  · simp only [Channel.restart]
    split
    · exact .inl rfl
    · exact .inr rfl
  · next mgmt =>
    obtain rfl : c = s.straps.mgmtSel := by simpa [State.isData] using mgmt
    exact .inl h.management

end Commands

theorem stacksOk_keptByCommands : KeptByCommands fun s => s.StacksRun ∧ s.Provisions where
  toKeptByEvents := stacksRun_keptByEvents.and provisions_keptByEvents
  queues _ _ h := ⟨h.1.of_same rfl (fun _ => rfl) rfl rfl, h.2⟩
  rests s v h e := by
    refine ⟨h.1.rests fun c => (e c).imp_right fun ⟨data, x, eq, old, new, _⟩ => ⟨data, x, eq, old, new⟩,
      fun phase c => ?_⟩
    change v[c].state = _ ∨ v[c].state = _
    rcases e c with same | ⟨-, x, eq, -, new, await⟩
    · rw [same]
      exact h.2 phase c
    · rw [eq]
      simp only [List.mem_cons, List.not_mem_nil, or_false] at new
      rcases new with held | rfl | disabled
      · exact .inl held
      · cases (await rfl).symm.trans phase
      · exact .inr disabled
  configures s r _ _ h _ check data unlocked := by
    refine ⟨h.1.configures h.2 check data unlocked, fun phase c => ?_⟩
    have := h.2 phase c
    by_cases e : c = r.channel
    · subst e
      simpa using this
    · simpa [e] using this
  policy _ _ h _ := ⟨h.1.of_same rfl (fun _ => rfl) rfl rfl, h.2⟩
  restart s r h := by
    refine stacksRun_keptByEvents.restart s (P := State.StacksRun) (Q := fun s => s.StacksRun ∧ s.Provisions) ?_
      fun t ht => ⟨ht.restartBlocks, ht.provisions_restartBlocks⟩
    exact h.1.of_same rfl (fun _ => rfl) rfl rfl

theorem stacksOk_powerOn (straps : Straps) : (State.powerOn straps).StacksOk := by
  have ch : ∀ c, (State.powerOn straps).ch c = Channel.powerOn := fun c => by simp [State.powerOn, State.ch]
  refine (State.stacksOk_iff _).2 ⟨⟨fun c => ?_, ⟨nofun, nofun, List.nodup_nil⟩, ?_⟩, fun _ c => ?_⟩
  · rw [ch]
    exact .of_empty (by decide) rfl rfl rfl
  · rw [ch]
    rfl
  · rw [ch]
    exact .inl rfl

end Sys2Proof.Machine
end

section
/-! PROOFS. The obligation of the scope stacks, and of the invariants at reset. -/

section
open Sys2Proof Sys2Proof.Machine

/-- Settles O56, by the invariant kept by every operation the commands are made of: the stacks and the jobs in order, and in
PROVISIONING no message. -/
theorem stepsKeepStacksOk : Obligations.StepsKeepStacksOk := by
  intro s t h
  rw [s.stacksOk_iff, t.stacksOk_iff]
  refine stacksOk_keptByCommands.step (fun straps _ => ?_) (fun _ _ h => ?_) h
  · obtain ⟨run, provisions⟩ := (State.stacksOk_iff _).1 (stacksOk_powerOn straps)
    exact ⟨run.of_same rfl (fun _ => rfl) rfl rfl, provisions⟩
  · exact ⟨h.1.of_same rfl (fun _ => rfl) rfl rfl, h.2⟩

/-- Settles O55: each invariant holds of the power-on records. -/
theorem invariantsHoldAtReset : Obligations.InvariantsHoldAtReset := by
  have all : ∀ straps : Straps, (State.powerOn straps).SlotsOk ∧ (State.powerOn straps).CountsOk ∧
      (State.powerOn straps).PolicyOk ∧ (State.powerOn straps).ReferencesOk ∧ (State.powerOn straps).EgressOk ∧
      (State.powerOn straps).StacksOk := fun straps =>
    ⟨slotsOk_powerOn straps, countsOk_powerOn straps, policyOk_powerOn straps, referencesOk_powerOn straps,
      egressOk_powerOn straps, stacksOk_powerOn straps⟩
  exact ⟨all, all Straps.atReset⟩

end
end

section
/-! PROOFS. The conditions that the commands test, as the statements read them. -/

namespace Sys2Proof.Machine

section Readings
variable (s : State) (c : ChannelNo)

theorem State.isData_iff : s.isData c = true ↔ c ≠ s.straps.mgmtSel := by simp [State.isData]

theorem RxChannel.quiet_iff (r : RxChannel) : r.quiet = true ↔ r.ingress = [] ∧ r.inUse = none := by
  simp [RxChannel.quiet]

theorem ParsePos.isClosePending_eq_false_iff (p : ParsePos) :
    p.isClosePending = false ↔ ∀ e, p ≠ .closePending e := by
  cases p <;> simp [ParsePos.isClosePending]

theorem ParsePos.isClosePending_iff (p : ParsePos) : p.isClosePending = true ↔ ∃ e, p = .closePending e := by
  cases p <;> simp [ParsePos.isClosePending]

/-- The stall timer of a data channel runs (R30). -/
theorem State.timerRuns_iff : (s.isData c && stallRuns (s.ch c) (s.rxOf c)) = true ↔ s.TimerRuns c := by
  have owed : (!(s.ch c).owedClose) = true ↔ ¬(s.ch c).OwesClose := by
    rw [← Channel.owedClose_iff, Bool.not_eq_true', Bool.not_eq_true]
  simp only [Bool.and_eq_true, s.isData_iff, stallRuns, beq_iff_eq, RxChannel.quiet_iff, owed, State.TimerRuns,
    Bool.not_eq_true', ParsePos.isClosePending_eq_false_iff, Option.isNone_iff_eq_none, Channel.OwesClose]
  constructor
  · rintro ⟨data, ⟨⟨⟨⟨⟨⟨state, ingress, inUse⟩, close⟩, blocked⟩, push⟩, owed⟩, armed⟩⟩
    exact ⟨data, state, ingress, inUse, close, blocked, push, fun ⟨parse, e⟩ => owed ⟨parse, push, e⟩, armed⟩
  · rintro ⟨data, state, ingress, inUse, close, blocked, push, owed, armed⟩
    exact ⟨data, ⟨⟨⟨⟨⟨⟨state, ingress, inUse⟩, close⟩, blocked⟩, push⟩, fun ⟨parse, _, e⟩ => owed ⟨parse, e⟩⟩, armed⟩⟩

/-- The management stall timer runs (R32). -/
theorem State.mgmtStallRuns_iff : s.mgmtStallRuns = true ↔ s.MgmtTimerRuns := by
  simp only [State.mgmtStallRuns, State.MgmtTimerRuns, Bool.and_eq_true, beq_iff_eq, RxChannel.quiet_iff, and_assoc]

/-- The lane is free but for the last segment of a message (log 14). -/
theorem State.returnLaneFree_iff :
    s.returnLaneFree = true ↔ s.upPort = .up ∧ ∀ m, s.mgmt.returnMsg = some m → m.rest ≠ [] := by
  simp only [State.returnLaneFree, Bool.and_eq_true, beq_iff_eq]
  cases s.mgmt.returnMsg <;> simp

theorem State.returnReady_iff : s.returnReady = true ↔
    (s.upPort = .up ∧ ∀ m, s.mgmt.returnMsg = some m → m.rest ≠ []) ∧ s.NoGrantDue ∧ 0 < s.mgmt.credits := by
  simp only [State.returnReady, Bool.and_eq_true, State.returnLaneFree_iff, Option.isNone_iff_eq_none,
    State.firstGrant_none_iff, decide_eq_true_eq, and_assoc]

theorem State.canSend_iff :
    s.canSend c = true ↔ c ≠ s.straps.mgmtSel ∧ (s.txOf c).egress ≠ [] ∧ 0 < (s.txOf c).credits := by
  simp [State.canSend, s.isData_iff, and_assoc]

theorem SpillPort.nextJob_eq_none_iff (p : SpillPort) : p.nextJob = none ↔ p.queue = [] := by
  simp only [SpillPort.nextJob]
  split
  · next j found =>
    simpa using List.ne_nil_of_mem (List.mem_of_find?_eq_some found)
  · simp

theorem State.mem_searchAfter (p c : ChannelNo) : c ∈ searchAfter p := by
  revert p c
  decide

theorem isCommandCode_iff (code : RecType) : isCommandCode code = true ↔ 0xF01 ≤ code.toNat ∧ code.toNat ≤ 0xF0E := by
  simp [isCommandCode, BitVec.le_def]

/-- A record that is not a command: a leaf, or a container of another code (R145). -/
theorem CommandRecord.isUnknown_iff (r : CommandRecord) :
    r.isUnknown = true ↔ r.isContainer = false ∨ r.code.toNat < 0xF01 ∨ 0xF0E < r.code.toNat := by
  have code := isCommandCode_iff r.code
  simp only [CommandRecord.isUnknown, Bool.or_eq_true, Bool.not_eq_true', ← Bool.not_eq_true, code]
  rw [not_and_or, Nat.not_le, Nat.not_le]

end Readings

end Sys2Proof.Machine
end

section
/-! PROOFS. Every command answers a next state, leaves the queue alone, and does nothing where its event cannot occur. -/

namespace Sys2Proof.Machine

/-! ### The queue of the commands behind -/

section Queue
variable (l : List Instr)

/-- The queue is as given. -/
def State.Queued (s : State) : Prop := s.pending = l

theorem queued_keptByOps : KeptByOps (State.Queued l) where
  wires _ _ _ _ _ _ _ h := h
  errors _ _ h _ := h
  counters _ _ h _ := h
  channels _ _ h _ := h
  receivers _ _ h _ := h
  transmitters _ _ h _ := h
  unit _ _ h _ := h
  port _ _ h _ := h
  hand s c u h _ _ _ := (State.hand_pending s c u).trans h
  unwind s c a x h _ := (State.unwind_pending s c a x).trans h
  start s c g gs h _ _ _ := (by simp [State.startMessage] : _ = s.pending).trans h
  finish s c h _ _ _ _ := (by simp [State.endMessage] : _ = s.pending).trans h
  withhold s t c _ h _ _ _ := (by simp [State.withhold] : _ = t.pending).trans h
  opens _ _ _ h _ _ := h
  spills _ _ _ h _ _ _ _ _ := h
  fills _ _ _ h _ _ _ _ _ := h
  spilled _ _ _ h _ _ := h
  filled _ _ _ _ h _ _ _ _ := h
  drained _ _ h _ _ := h

theorem queued_keptByCommands : KeptByCommands (State.Queued l) where
  toKeptByEvents := (queued_keptByOps l).keptByEvents fun _ _ _ h _ _ => h
  queues _ _ h := h
  rests _ _ h _ := h
  configures _ _ _ _ h _ _ _ _ := h
  policy _ _ h _ := h
  restart s r h := by
    refine KeptByEvents.restart s (P := State.Queued l) ((queued_keptByOps l).keptByEvents fun _ _ _ h _ _ => h) h
      fun t ht => ?_
    rw [State.Queued, State.restartBlocks_eq]
    exact ht

end Queue

/-! ### A next state -/

theorem State.runCommand_next (s : State) (code : RecType) (required optional : List RecType)
    (body : State → CommandRecord → State) : ∃ t, s.runCommand code required optional body = .next t := by
  simp only [State.runCommand]
  split
  · exact ⟨_, rfl⟩
  · split <;> exact ⟨_, rfl⟩

/-- No command faults or is refused: faults of the spec are effects on the state. -/
theorem exec_next (i : Instr) (s : State) : ∃ t, exec i s = .next t := by
  cases i
  case identify | channelGet =>
    simp only [exec, execIdentify, execChannelGet]
    exact s.runCommand_next _ _ _ _
  case status | channelSet | channelReset | policyInsert | policyDelete | policyRead | defaultSet | commit |
      countersRead | backingRestore | provisionClose | restart =>
    exact s.runCommand_next _ _ _ _
  case powerOnReset | downstreamSegmentDiscard | timebaseTick | awaitTakeSegment | takeSegmentFlags | completeHeader |
      takePayloadRun | beginClose | completeClose | carryOutPendingPush | degradePendingPush | returnMessageBegin =>
    exact ⟨_, rfl⟩
  all_goals
    simp only [exec, execUpstreamLinkDown, execUpstreamLinkUp, execDownstreamLinkDown, execDownstreamLinkUp,
      execSegmentReceived, execCreditWordReceived, execCreditWordGrant, execStall, execMgmtStallExpiry, execTakeJob,
      execSpillCompletion, execFillCompletion, execProbeCompletion, execDownstreamSegmentSend, execDownstreamSegmentSent,
      execReturnSegmentSend, execResponseSent, execNoticeSent, execMgmtTakeSegment, execMgmtParseBytes,
      execUnknownCommand, execPairRead, execCopyCompletion]
    repeat' split
    all_goals exact ⟨_, rfl⟩

theorem exec_pending (i : Instr) (s : State) : ∃ t, exec i s = .next t ∧ t.pending = s.pending := by
  obtain ⟨t, done⟩ := exec_next i s
  refine ⟨t, done, ?_⟩
  by_cases power : ∃ straps, i = .powerOnReset straps
  · obtain ⟨straps, rfl⟩ := power
    cases done
    rfl
  · have kept := (queued_keptByCommands s.pending).exec (s := s) rfl i (not_exists.1 power)
    rwa [done] at kept

/-! ### An event that cannot occur -/

section Idle
variable {s : State}

theorem State.runCommand_idle {code : RecType} (h : ¬ s.Executes code) (required optional : List RecType)
    (body : State → CommandRecord → State) : s.runCommand code required optional body = .next s := by
  have none : s.readyFor code = none := by
    refine Option.eq_none_iff_forall_ne_some.2 fun r ready => h ?_
    exact ⟨r, s.readyFor_eq_some_iff.1 ready⟩
  simp only [State.runCommand, none]

theorem State.engineDo_idle {k : EngineStep} (h : ¬ s.Serves k) (f : State → ChannelNo → State) :
    s.engineDo k f = s :=
  s.engineDo_none k f (Option.eq_none_iff_forall_ne_some.2 fun c served => h ⟨c, served⟩)

theorem State.sendChoice_eq_none (h : ¬(s.dnPort = .up ∧ s.dnSending = none ∧
    ∃ c, c ≠ s.straps.mgmtSel ∧ (s.txOf c).egress ≠ [] ∧ 0 < (s.txOf c).credits)) : s.sendChoice = none := by
  simp only [State.sendChoice]
  split
  · next free =>
    simp only [Bool.and_eq_true, beq_iff_eq, Option.isNone_iff_eq_none] at free
    refine List.find?_eq_none.2 fun c _ sends => h ⟨free.1, free.2, c, (s.canSend_iff c).1 sends⟩
  · rfl

/-- A command whose event cannot occur changes nothing (log 1). -/
theorem exec_idle {i : Instr} (h : ¬ s.Occurs i) : exec i s = .next s := by
  cases i
  case powerOnReset | timebaseTick | downstreamSegmentDiscard => exact absurd trivial h
  case identify | channelGet =>
    simp only [exec, execIdentify, execChannelGet]
    exact State.runCommand_idle h _ _ _
  case status | channelSet | channelReset | policyInsert | policyDelete | policyRead | defaultSet | commit |
      countersRead | backingRestore | provisionClose | restart =>
    exact State.runCommand_idle h _ _ _
  case awaitTakeSegment | takeSegmentFlags | completeHeader | takePayloadRun | beginClose | completeClose |
      carryOutPendingPush | degradePendingPush =>
    exact congrArg _ (State.engineDo_idle h _)
  case upstreamLinkDown | segmentReceived =>
    cases port : s.upPort
    · simp only [exec, execUpstreamLinkDown, execSegmentReceived, port]
    · exact absurd port h
  case upstreamLinkUp =>
    cases port : s.upPort
    · exact absurd port h
    · simp only [exec, execUpstreamLinkUp, port]
  case downstreamLinkDown =>
    cases port : s.dnPort
    · simp only [exec, execDownstreamLinkDown, port]
    · exact absurd port h
  case downstreamLinkUp =>
    cases port : s.dnPort
    · exact absurd port h
    · simp only [exec, execDownstreamLinkUp, port]
  case creditWordReceived p u =>
    cases port : s.portState p
    · simp only [exec, execCreditWordReceived, port]
    · exact absurd port h
  case creditWordGrant =>
    simp only [exec, execCreditWordGrant]
    split
    · next free =>
      have none : s.firstGrant = none := by
        rw [s.firstGrant_none_iff]
        by_contra due
        obtain ⟨up, between⟩ := s.returnLaneFree_iff.1 free
        exact h ⟨up, between, due⟩
      simp only [none]
    · rfl
  case stall c =>
    have notDue : s.stallDue c = false := by
      refine Bool.eq_false_iff.2 fun due => h ?_
      obtain ⟨runs, zero⟩ := Bool.and_eq_true_iff.1 due
      exact ⟨(s.timerRuns_iff c).1 runs, by simpa using zero⟩
    simp [exec, execStall, notDue]
  case mgmtStallExpiry =>
    simp only [exec, execMgmtStallExpiry]
    split
    · next due =>
      obtain ⟨runs, zero⟩ := Bool.and_eq_true_iff.1 due
      exact absurd ⟨s.mgmtStallRuns_iff.1 runs, by simpa using zero⟩ h
    · rfl
  case takeJob =>
    simp only [exec, execTakeJob]
    split
    · rfl
    · next idle =>
      split
      · rfl
      · next fitted =>
        split
        · next probe => exact absurd ⟨idle, by simpa using fitted, .inl probe⟩ h
        · split
          · rfl
          · next j next_ =>
            refine absurd ⟨idle, by simpa using fitted, .inr fun empty => ?_⟩ h
            rw [s.spill.nextJob_eq_none_iff.2 empty] at next_
            cases next_
  case spillCompletion =>
    simp only [exec, execSpillCompletion]
    split
    · next flies => exact absurd ⟨_, _, flies, rfl⟩ h
    all_goals rfl
  case fillCompletion sdi =>
    simp only [exec, execFillCompletion]
    split
    · next flies =>
      split
      · next length => exact absurd ⟨_, _, flies, rfl, by simpa using length⟩ h
      · rfl
    all_goals rfl
  case probeCompletion sdi =>
    simp only [exec, execProbeCompletion]
    split
    · next flies =>
      split
      · next length => exact absurd ⟨_, _, flies, by simpa using length⟩ h
      · rfl
    all_goals rfl
  case downstreamSegmentSend => simp only [exec, execDownstreamSegmentSend, State.sendChoice_eq_none h]
  case downstreamSegmentSent =>
    simp only [exec, execDownstreamSegmentSent]
    split
    · rfl
    · next d sending => exact absurd (show s.dnSending ≠ none by simp [sending]) h
  case returnMessageBegin =>
    simp only [exec, execReturnMessageBegin, State.returnBegin]
    split
    · next lane =>
      simp only [State.beginReturn]
      split
      · next responding response =>
        exact absurd ⟨s.laneCanBegin_iff.1 lane, .inl ⟨responding, by simp [response]⟩⟩ h
      · split
        · rfl
        · next n ns waiting => exact absurd ⟨s.laneCanBegin_iff.1 lane, .inr (by simp [waiting])⟩ h
    · rfl
  case returnSegmentSend =>
    simp only [exec, execReturnSegmentSend]
    split
    · rfl
    · next m sending =>
      split
      · next ready =>
        obtain ⟨⟨up, between⟩, noGrant, credit⟩ := s.returnReady_iff.1 ready
        exact absurd ⟨up, noGrant, credit, m, sending, between m sending⟩ h
      · rfl
  case responseSent =>
    simp only [exec, execResponseSent]
    split
    · next sent => exact absurd sent h
    all_goals rfl
  case noticeSent =>
    simp only [exec, execNoticeSent]
    split
    · next sent => exact absurd ⟨_, sent⟩ h
    all_goals rfl
  case mgmtTakeSegment =>
    simp only [exec, execMgmtTakeSegment]
    split
    · next g gs free front =>
      have waits : (s.rxOf s.straps.mgmtSel).ingress ≠ [] := by simp [front]
      split
      · next idle => exact absurd ⟨.inl idle, free, waits⟩ h
      · next collecting => exact absurd ⟨.inr collecting, free, waits⟩ h
      all_goals rfl
    all_goals rfl
  case mgmtParseBytes =>
    simp only [exec, execMgmtParseBytes]
    split
    · next u collecting inUse => exact absurd ⟨collecting, by simp [inUse]⟩ h
    all_goals rfl
  case unknownCommand =>
    simp only [exec, execUnknownCommand]
    split
    · rfl
    · next r ready =>
      split
      · next unknown => exact absurd ⟨r, s.readyRecord_eq_some_iff.1 ready, r.isUnknown_iff.1 unknown⟩ h
      · rfl
  case pairRead =>
    simp only [exec, execPairRead]
    split
    · next reads => exact absurd ⟨_, _, _, _, _, reads⟩ h
    all_goals rfl
  case copyCompletion =>
    simp only [exec, execCopyCompletion]
    split
    · next copying => exact absurd copying h
    all_goals rfl

end Idle

end Sys2Proof.Machine
end

section
/-! PROOFS. The obligations of the queue. -/

section
open Sys2Proof Sys2Proof.Machine

/-- Settles O1, by the definition of a step. -/
theorem stepRunsTheFrontCommand : Obligations.StepRunsTheFrontCommand := by
  refine ⟨fun c rest s front => ?_, fun s empty => ?_⟩
  · simp only [step, front]
  · simp only [step, empty]

/-- Settles O2: a command's case says when its event occurs, and no operation touches the queue. -/
theorem everyCommandIsCarriedOut : Obligations.EveryCommandIsCarriedOut :=
  fun c s => ⟨exec_pending c s, exec_idle⟩

end
end

section
/-! PROOFS. Power-on, and the links up and down. -/

namespace Sys2Proof.Machine

/-! ### Power-on -/

theorem Bank.powerOn_lookup (set : Fin 8) (type : RecType) :
    Bank.powerOn.lookup set type = { action := .pass, remap := none, countIndex := none } := by
  simp [Bank.powerOn, Bank.lookup, Bank.find, DefaultAction.toAction]

theorem PolicyStore.powerOn_bank (n : BankName) : PolicyStore.powerOn.bank n = Bank.powerOn := by cases n <;> rfl

/-! ### The faults of a link event (R33) -/

/-- Whether a channel faults at a link event depends on its own record alone, so the channels that fault are known before the
first fault. -/
theorem State.foldl_faultLink {a : Bool} {who : Channel → Bool} {p : ChannelNo → Bool} : ∀ {l : List ChannelNo} {u : State},
    l.Nodup → (∀ c ∈ l, (u.isData c && (u.ch c).state.messageOpen && who (u.ch c)) = p c) →
    l.foldl (State.faultLink a who) u = (l.filter p).foldl (fun v c => v.fault c .link .none a) u
  | [], _, _, _ => rfl
  | c :: l, u, nodup, test => by
    obtain ⟨fresh, nodup⟩ := List.nodup_cons.1 nodup
    have here := test c List.mem_cons_self
    have later : ∀ v : State, (∀ d, d ≠ c → v.ch d = u.ch d) → v.straps = u.straps →
        ∀ d ∈ l, (v.isData d && (v.ch d).state.messageOpen && who (v.ch d)) = p d := by
      intro v off straps d mem
      rw [off d fun e => fresh (e ▸ mem), State.isData, straps]
      exact test d (List.mem_cons_of_mem c mem)
    rw [List.foldl_cons, State.faultLink, here, List.filter_cons]
    cases p c
    · exact State.foldl_faultLink nodup (later u (fun _ _ => rfl) rfl)
    · refine State.foldl_faultLink nodup (later _ (fun d e => ?_) (by simp))
      simp [State.fault, e]

/-- What the faults of a link event leave in the Management Unit: notices and the lost count apart, all of it. -/
theorem State.foldl_fault_mgmt (l : List ChannelNo) (a : Bool) (u : State) :
    (l.foldl (fun v c => v.fault c .link .none a) u).straps = u.straps ∧
      (l.foldl (fun v c => v.fault c .link .none a) u).mgmt.unit = u.mgmt.unit ∧
      (l.foldl (fun v c => v.fault c .link .none a) u).mgmt.returnMsg = u.mgmt.returnMsg := by
  induction l generalizing u with
  | nil => exact ⟨rfl, rfl, rfl⟩
  | cons c l ih =>
    obtain ⟨straps, unit, message⟩ := ih (u.fault c .link .none a)
    refine ⟨straps.trans (by simp), unit.trans ?_, message.trans ?_⟩
    all_goals rw [State.fault, State.unwind_mgmt, State.queueNotice_mgmt]
    all_goals rfl

theorem State.faultLinks_eq {u s : State} (who : Channel → Bool) (a : Bool) (straps : u.straps = s.straps)
    (same : ∀ c, (u.ch c).state = (s.ch c).state ∧ who (u.ch c) = who (s.ch c)) :
    u.faultLinks a who = (s.linkFaulting who).foldl (fun v c => v.fault c .link .none a) u := by
  refine State.foldl_faultLink allChannels_nodup fun c _ => ?_
  rw [(same c).1, (same c).2, State.isData, straps]
  have data : (c != s.straps.mgmtSel) = decide (c ≠ s.straps.mgmtSel) := by
    by_cases e : c = s.straps.mgmtSel <;> simp [e]
  rw [data]

theorem exec_upstreamLinkDown (s : State) (up : s.upPort = .up) : exec .upstreamLinkDown s = .next s.upstreamDown := by
  simp only [exec, execUpstreamLinkDown, up]

theorem exec_downstreamLinkDown (s : State) (up : s.dnPort = .up) :
    exec .downstreamLinkDown s = .next s.downstreamDown := by
  simp only [exec, execDownstreamLinkDown, up]

/-- The Management Unit at Upstream link down, by what was being sent (R138). -/
theorem MgmtUnit.upstreamDown_eq (m : MgmtUnit) : m.upstreamDown =
    { m with
      messageOpen := false
      unit := if m.unit = .collecting then .idle else m.unit
      collector := Collector.empty
      credits := 0
      returnMsg := none
      returnUnit := none
      lost := match m.returnMsg with
        | some { kind := .notice _, rest := _ } => min 255 (m.lost + 1)
        | some { kind := .response, rest := _ } | none => m.lost } := by
  simp only [MgmtUnit.upstreamDown, beq_iff_eq]
  cases m.returnMsg with
  | none => rfl
  | some message =>
    obtain ⟨kind, rest⟩ := message
    cases kind <;> rfl

end Sys2Proof.Machine
end

section
/-! PROOFS. The obligations of power-on and of the links. -/

section
open Sys2Proof Sys2Proof.Machine

/-- Settles O3, by the power-on records. -/
theorem powerOnSetsEveryBlock : Obligations.PowerOnSetsEveryBlock := by
  refine ⟨fun straps s => rfl, fun s pending during => ?_⟩
  simp only [exec, execPowerOnReset, pending, during]
  rfl

/-- Settles O4: both banks are empty after power-on, so every lookup gives the default. -/
theorem powerOnPolicyIsPass : Obligations.PowerOnPolicyIsPass := by
  intro straps s
  refine ⟨_, rfl, rfl, rfl, rfl, fun n => ?_⟩
  change (PolicyStore.powerOn.bank n).entries = [] ∧ (PolicyStore.powerOn.bank n).refs = 0 ∧
    (∀ set : Fin 8, (PolicyStore.powerOn.bank n).defaults[set] = .pass) ∧
    ∀ (set : Fin 8) (type : RecType), (PolicyStore.powerOn.bank n).lookup set type = _
  rw [PolicyStore.powerOn_bank]
  exact ⟨rfl, rfl, fun set => by simp [Bank.powerOn], Bank.powerOn_lookup⟩

/-- Settles O5, by the definitions of the two events. -/
theorem linkUpSetsSequences : Obligations.LinkUpSetsSequences := by
  refine ⟨fun s down => ?_, fun s down => ?_⟩
  · simp only [exec, execUpstreamLinkUp, down]
    rfl
  · simp only [exec, execDownstreamLinkUp, down]
    rfl

/-- Settles O6: the channels that fault are those with a message open before the first fault. -/
theorem upstreamLinkDownFaultsOpenMessages : Obligations.UpstreamLinkDownFaultsOpenMessages := by
  intro s up u v
  have faults : u.faultLinks true (fun _ => true) = v := State.faultLinks_eq _ _ rfl fun c => ⟨rfl, rfl⟩
  obtain ⟨straps, unit, message⟩ := State.foldl_fault_mgmt (s.linkFaulting fun _ => true) true u
  have down : s.upstreamDown =
      ((v.modRx s.straps.mgmtSel fun r => { r with inUse := none }).modMgmt MgmtUnit.upstreamDown).settleTurn := by
    rw [← faults]
    rfl
  rw [exec_upstreamLinkDown s up, down]
  simp only [State.modMgmt, MgmtUnit.upstreamDown_eq]
  have unit : v.mgmt.unit = s.mgmt.unit := unit
  have message : v.mgmt.returnMsg = s.mgmt.returnMsg := message
  simp only [State.modRx_eq, State.setRx_mgmt, unit, message]
  rfl

/-- Settles O7: the channels that fault are those whose message had output before the first fault. -/
theorem downstreamLinkDownDiscardsOutput : Obligations.DownstreamLinkDownDiscardsOutput := by
  intro s up u v
  have table : ({ s with dnPort := .down, dnSending := none }.mapCh fun c ch =>
      if s.isData c && !(s.txOf c).egress.isEmpty then { ch with egressBlocked := false } else ch).mapTx
        (fun _ x => { x with egress := [], credits := 0 }) = u :=
    congrArg (fun v => { u with table := v }) (congrArg Vector.ofFn (funext fun c =>
      if_congr (by simp [State.isData_iff]) rfl rfl))
  have faults : u.faultLinks false Channel.outputStarted = v := by
    refine State.faultLinks_eq _ _ rfl fun c => ?_
    simp only [u, State.ch, Vector.getElem_ofFn, Fin.getElem_fin]
    split <;> exact ⟨rfl, rfl⟩
  rw [exec_downstreamLinkDown s up, State.downstreamDown, table, faults]

end
end

section
/-! PROOFS. The units on the link: what is written is read back, and what cannot be a unit is counted. -/

namespace Sys2Proof.Machine

/-! ### Words and headers as bytes -/

theorem wordBytes_append (w : BitVec 16) : w.extractLsb' 8 8 ++ w.extractLsb' 0 8 = w := by
  refine BitVec.eq_of_getLsbD_eq fun i hi => ?_
  simp only [BitVec.getLsbD_append, BitVec.getLsbD_extractLsb']
  by_cases low : i < 8
  · simp [low]
  · simp [low, show i - 8 < 8 by omega, show 8 + (i - 8) = i by omega]

theorem typeWord_msb (f : BitVec 1) (r : BitVec 3) (t : BitVec 12) :
    ((f ++ r ++ t).extractLsb' 8 8).msb = f.getLsbD 0 := by
  simp only [BitVec.msb_eq_getLsbD_last, BitVec.getLsbD_append, BitVec.getLsbD_extractLsb']
  rfl

theorem typeWord_reserved (f : BitVec 1) (r : BitVec 3) (t : BitVec 12) :
    ((f ++ r ++ t).extractLsb' 8 8).extractLsb' 4 3 = r := by
  refine BitVec.eq_of_getLsbD_eq fun i hi => ?_
  simp only [BitVec.getLsbD_append, BitVec.getLsbD_extractLsb']
  simp [show ¬ 8 + (4 + i) < 12 by omega, show 8 + (4 + i) - 12 = i by omega, hi, show 4 + i < 8 by omega]

theorem typeWord_type (f : BitVec 1) (r : BitVec 3) (t : BitVec 12) :
    ((f ++ r ++ t).extractLsb' 8 8).extractLsb' 0 4 ++ (f ++ r ++ t).extractLsb' 0 8 = t := by
  refine BitVec.eq_of_getLsbD_eq fun i hi => ?_
  simp only [BitVec.getLsbD_append, BitVec.getLsbD_extractLsb']
  by_cases low : i < 8
  · simp [low, hi]
  · simp [low, show i - 8 < 4 by omega, show 8 + (i - 8) = i by omega, hi, show i - 8 < 8 by omega]

theorem channelOf_channelByte (c : ChannelNo) (low : BitVec 4) : channelOf (channelByte c low) = c := by
  revert c low
  decide

theorem channelByte_low (c : ChannelNo) (low : BitVec 4) : (channelByte c low).extractLsb' 0 4 = low := by
  revert c low
  decide

theorem Header.ofList_toBytes (h : Header) : Header.ofList h.toBytes = some h := by
  obtain ⟨form, reserved, type, length⟩ := h
  simp only [Header.toBytes, Header.typeWord, wordBytes, List.cons_append, List.nil_append, Header.ofList,
    Header.ofBytes, wordBytes_append, typeWord_msb, typeWord_reserved, typeWord_type]
  cases form <;> rfl

/-! ### The CRC of a unit -/

@[simp] theorem wordBytes_length (w : BitVec 16) : (wordBytes w).length = 2 := rfl

@[simp] theorem withCrc_length (body : List Byte) : (withCrc body).length = body.length + 2 := by simp [withCrc]

theorem checkUnit_withCrc (body : List Byte) : checkUnit (withCrc body) = .ok body := by
  have long : ¬ (withCrc body).length < 2 := by simp
  have front : (withCrc body).take ((withCrc body).length - 2) = body := by simp [withCrc]
  have back : (withCrc body).drop ((withCrc body).length - 2) = wordBytes (crc16 body) := by simp [withCrc]
  simp only [checkUnit, if_neg long, front, back, beq_self_eq_true, if_true]

/-- A unit too short to hold a CRC fails as one of the two errors (log 4). -/
theorem checkUnit_short {u : List Byte} (short : u.length < 2) :
    checkUnit u = .error .crc ∨ checkUnit u = .error .badHeader := by
  simp only [checkUnit, if_pos short]
  split
  · exact .inl rfl
  · exact .inr rfl

theorem checkUnit_badCrc {u : List Byte} (long : 2 ≤ u.length)
    (bad : u.drop (u.length - 2) ≠ wordBytes (crc16 (u.take (u.length - 2)))) : checkUnit u = .error .crc := by
  simp [checkUnit, Nat.not_lt.2 long, bad]

theorem decodeSegment_of_check {u : List Byte} {e : UnitError} (bad : checkUnit u = .error e) :
    decodeSegment u = .error e := by
  simp only [decodeSegment, bad]

theorem decodeSegment_withCrc (body : List Byte) : decodeSegment (withCrc body) = segmentOfBody body := by
  simp only [decodeSegment, checkUnit_withCrc]

theorem decodeCredit_of_check {managed : ChannelNo → Bool} {u : List Byte} {e : UnitError}
    (bad : checkUnit u = .error e) : decodeCredit managed u = .error e := by
  simp only [decodeCredit, bad]

theorem decodeCredit_withCrc (managed : ChannelNo → Bool) (body : List Byte) :
    decodeCredit managed (withCrc body) = creditOfBody managed body := by
  simp only [decodeCredit, checkUnit_withCrc]

/-! ### Segments -/

/-- The flags of a segment in its second byte (Figure 8-2). -/
theorem flagBits (som eom abort : Bool) :
    (BitVec.ofBool som ++ BitVec.ofBool eom ++ BitVec.ofBool abort ++ 0#5).extractLsb' 0 5 = 0 ∧
      (BitVec.ofBool som ++ BitVec.ofBool eom ++ BitVec.ofBool abort ++ 0#5).getLsbD 7 = som ∧
      (BitVec.ofBool som ++ BitVec.ofBool eom ++ BitVec.ofBool abort ++ 0#5).getLsbD 6 = eom ∧
      (BitVec.ofBool som ++ BitVec.ofBool eom ++ BitVec.ofBool abort ++ 0#5).getLsbD 5 = abort := by
  revert som eom abort
  decide

theorem decodeSegment_encodeSegment {c : ChannelNo} {seq : BitVec 4} {som eom abort : Bool} {payload : List Byte}
    (legal : LegalSegment eom abort payload) : decodeSegment (encodeSegment c seq som eom abort payload) =
      .ok { channel := c, seq := seq, som := som, eom := eom, abort := abort, payload := payload } := by
  obtain ⟨short, empty, zero⟩ := legal
  obtain ⟨mbz, som', eom', abort'⟩ := flagBits som eom abort
  have length : (BitVec.ofNat 8 payload.length).toNat = payload.length := by
    rw [BitVec.toNat_ofNat, Nat.mod_eq_of_lt (by omega)]
  have none : BitVec.ofNat 8 payload.length = 0#8 ↔ payload = [] := by
    rw [← BitVec.toNat_inj, length]
    simp
  simp only [decodeSegment, encodeSegment, checkUnit_withCrc, segmentBody, List.cons_append, List.nil_append,
    segmentOfBody, mbz, som', eom', abort', length, channelOf_channelByte, channelByte_low]
  rw [if_neg]
  cases abort
  · simpa [short, none] using empty
  · simp [zero rfl]

theorem exec_segmentReceived_error {s : State} {u : List Byte} {e : UnitError} (up : s.upPort = .up)
    (bad : decodeSegment u = .error e) :
    exec (.segmentReceived u) s = .next { s with linkErrors := s.linkErrors.countError e } := by
  simp only [exec, execSegmentReceived, up, bad, State.modErrors]

theorem exec_segmentReceived_legal {s : State} {c : ChannelNo} {seq : BitVec 4} {som eom abort : Bool}
    {payload : List Byte} (up : s.upPort = .up) (legal : LegalSegment eom abort payload) :
    exec (.segmentReceived (encodeSegment c seq som eom abort payload)) s = .next (s.takeSegment
      { channel := c, seq := seq, som := som, eom := eom, abort := abort, payload := payload }) := by
  simp only [exec, execSegmentReceived, up, decodeSegment_encodeSegment legal]

theorem State.takeSegment_overrun {s : State} {g : ReceivedSegment} (none : (s.rxOf g.channel).credit = 0) :
    s.takeSegment g = { s with linkErrors := { s.linkErrors with overrun := min 65535 (s.linkErrors.overrun + 1) } } := by
  simp [State.takeSegment, none, State.modErrors, satAdd, count16Max]

theorem State.takeSegment_discarded {s : State} {g : ReceivedSegment} (credit : 0 < (s.rxOf g.channel).credit)
    (closed : ¬ s.Receives g.channel) : s.takeSegment g =
      { s with rx := s.rx.set g.channel { s.rxOf g.channel with credit := (s.rxOf g.channel).credit - 1 } } := by
  rw [← s.mayReceive_iff] at closed
  simp only [State.takeSegment, beq_iff_eq, credit.ne', if_false, closed]
  rfl

theorem State.takeSegment_placed {s : State} {g : ReceivedSegment} (credit : 0 < (s.rxOf g.channel).credit)
    (allowed : s.Receives g.channel) : s.takeSegment g =
      { s with
        rx := s.rx.set g.channel
          (RxChannel.accept { s.rxOf g.channel with credit := (s.rxOf g.channel).credit - 1 } g) } := by
  rw [← s.mayReceive_iff] at allowed
  simp only [State.takeSegment, beq_iff_eq, credit.ne', if_false, allowed, if_true, State.modRx_eq, State.setRx_rxOf,
    State.setRx_setRx]
  rfl

/-- Too few bytes for a header (log 5). -/
theorem segmentOfBody_short {body : List Byte} (short : body.length < 4) : segmentOfBody body = .error .badHeader := by
  match body, short with
  | [], _ | [_], _ | [_, _], _ | [_, _, _], _ => rfl

/-- A header that breaks the layout of a segment (R127, R128). -/
theorem segmentOfBody_illegal {b0 b1 b2 b3 : Byte} {payload : List Byte}
    (bad : b1 &&& 0x1F ≠ 0 ∨ b3 ≠ 0 ∨ 64 < b2.toNat ∨ payload.length ≠ b2.toNat ∨ (b2 = 0 ∧ b1 &&& 0x60 = 0) ∨
      (b1 &&& 0x20 ≠ 0 ∧ b2 ≠ 0)) : segmentOfBody (b0 :: b1 :: b2 :: b3 :: payload) = .error .badHeader := by
  have flags : ∀ b : Byte, (b &&& 0x1F ≠ 0 ↔ b.extractLsb' 0 5 ≠ 0) ∧
      (b &&& 0x60 = 0 ↔ b.getLsbD 6 = false ∧ b.getLsbD 5 = false) ∧ (b &&& 0x20 ≠ 0 ↔ b.getLsbD 5 = true) := by
    decide
  obtain ⟨mbz, terminal, abort⟩ := flags b1
  rw [mbz, terminal, abort] at bad
  simp only [segmentOfBody]
  rw [if_pos]
  simp only [Bool.or_eq_true, Bool.and_eq_true, bne_iff_ne, beq_iff_eq, decide_eq_true_eq, Bool.not_eq_true']
  tauto

/-! ### Credit words -/

theorem creditOfBody_encode {managed : ChannelNo → Bool} {c : ChannelNo} {n : Nat} (taken : managed c = true)
    (one : 1 ≤ n) (eight : n ≤ 8) : decodeCredit managed (encodeCredit c n) = .ok (c, n) := by
  have length : (BitVec.ofNat 8 n).toNat = n := by rw [BitVec.toNat_ofNat, Nat.mod_eq_of_lt (by omega)]
  have pos : BitVec.ofNat 8 n ≠ 0#8 := by
    rw [ne_eq, ← BitVec.toNat_inj, length]
    exact Nat.ne_of_gt one
  simp only [decodeCredit, encodeCredit, checkUnit_withCrc, creditOfBody, channelOf_channelByte, channelByte_low, length]
  rw [if_neg]
  simpa [pos, taken] using eight

theorem exec_creditWordReceived_error {s : State} {port : Port} {u : List Byte} {e : UnitError}
    (up : s.portState port = .up) (bad : decodeCredit (s.creditChannel port) u = .error e) :
    exec (.creditWordReceived port u) s = .next { s with linkErrors := s.linkErrors.countError e } := by
  simp only [exec, execCreditWordReceived, up, bad, State.modErrors]

theorem exec_creditWordReceived_taken {s : State} {port : Port} {c : ChannelNo} {n : Nat}
    (up : s.portState port = .up) (taken : s.creditChannel port c = true) (one : 1 ≤ n) (eight : n ≤ 8) :
    exec (.creditWordReceived port (encodeCredit c n)) s = .next (s.takeCredit port c n) := by
  simp only [exec, execCreditWordReceived, up, creditOfBody_encode taken one eight]

/-- A body that is not two bytes is no credit word. -/
theorem creditOfBody_length {managed : ChannelNo → Bool} {body : List Byte} (length : body.length ≠ 2) :
    creditOfBody managed body = .error .badHeader := by
  match body, length with
  | [], _ | [_], _ | _ :: _ :: _ :: _, _ => rfl
  | [_, _], two => exact absurd rfl two

theorem channelOf_val (b : Byte) : (channelOf b).val = (b >>> 4).toNat := by
  revert b
  decide

/-- A credit word that breaks the layout, or names a channel that the port does not take (R133). -/
theorem creditOfBody_illegal {s : State} {port : Port} {b0 b1 : Byte}
    (bad : b0 &&& 0x0F ≠ 0 ∨ b1 = 0 ∨ 8 < b1.toNat ∨
      (port = .upstream ∧ (b0 >>> 4).toNat ≠ s.straps.mgmtSel.val) ∨
      (port = .downstream ∧ (b0 >>> 4).toNat = s.straps.mgmtSel.val)) :
    creditOfBody (s.creditChannel port) [b0, b1] = .error .badHeader := by
  have low : ∀ b : Byte, b &&& 0x0F ≠ 0 ↔ b.extractLsb' 0 4 ≠ 0 := by decide
  have other : (port = .upstream ∧ (b0 >>> 4).toNat ≠ s.straps.mgmtSel.val) ∨
      (port = .downstream ∧ (b0 >>> 4).toNat = s.straps.mgmtSel.val) → s.creditChannel port (channelOf b0) = false := by
    rw [← channelOf_val, ne_eq, Fin.val_inj]
    rintro (⟨rfl, ne⟩ | ⟨rfl, eq⟩)
    · simp [State.creditChannel, State.isData, ne]
    · simp [State.creditChannel, State.isData, eq]
  simp only [creditOfBody]
  rw [if_pos]
  simp only [Bool.or_eq_true, bne_iff_ne, beq_iff_eq, decide_eq_true_eq, Bool.not_eq_true']
  rw [low] at bad
  tauto

end Sys2Proof.Machine
end

section
/-! PROOFS. The obligations of the units on the link. -/

section
open Sys2Proof Sys2Proof.Machine

/-- Settles O8, by evaluation of the two CRCs. -/
theorem workedCrcs : Obligations.WorkedCrcs := by
  unfold Obligations.WorkedCrcs
  exact ⟨rfl, rfl, rfl, by decide +kernel, by decide +kernel⟩

/-- Settles O9: the fields of each unit are read where they were written. -/
theorem linkUnitsReadBack : Obligations.LinkUnitsReadBack :=
  ⟨Header.ofList_toBytes, fun _ _ _ _ _ _ => decodeSegment_encodeSegment, fun _ _ _ => creditOfBody_encode⟩

/-- Settles O10: the segment is read back whole, and placed. -/
theorem segmentJoinsItsBuffer : Obligations.SegmentJoinsItsBuffer := by
  intro s c seq som eom abort payload up legal credit allowed
  rw [exec_segmentReceived_legal up legal, State.takeSegment_placed credit allowed]
  rfl

/-- Settles O11: each way a unit is refused, by the first test it fails. -/
theorem unitsAreDiscardedAndCounted : Obligations.UnitsAreDiscardedAndCounted := by
  refine ⟨fun s u up short => ?_, fun s body up short => ?_, fun s u up long => ⟨fun bad => ?_, ?_⟩,
    fun s c seq som eom abort payload up legal => ⟨fun none => ?_, fun credit closed => ?_⟩, fun s u => rfl⟩
  · rcases checkUnit_short short with bad | bad
    · exact .inl (exec_segmentReceived_error up (decodeSegment_of_check bad))
    · exact .inr (exec_segmentReceived_error up (decodeSegment_of_check bad))
  · exact exec_segmentReceived_error up ((decodeSegment_withCrc body).trans (segmentOfBody_short short))
  · exact exec_segmentReceived_error up (decodeSegment_of_badCrc long bad)
  · rintro b0 b1 b2 b3 payload rfl bad
    exact exec_segmentReceived_error up ((decodeSegment_withCrc _).trans (segmentOfBody_illegal bad))
  · rw [exec_segmentReceived_legal up legal, State.takeSegment_overrun none]
  · rw [exec_segmentReceived_legal up legal, State.takeSegment_discarded credit closed]

/-- Settles O12: a credit word is read back and counted, or fails one of the tests in their order. -/
theorem creditWordsRaiseCredits : Obligations.CreditWordsRaiseCredits := by
  refine ⟨fun s c n one eight => ⟨fun up mgmt => ?_, fun up data => ?_⟩, fun s port u up short => ?_,
    fun s port u up long => ⟨fun bad => ?_, ?_⟩⟩
  · exact exec_creditWordReceived_taken up (by simp [State.creditChannel, State.isData, mgmt]) one eight
  · exact exec_creditWordReceived_taken up ((s.isData_iff c).2 data) one eight
  · rcases checkUnit_short short with bad | bad
    · exact .inl (exec_creditWordReceived_error up (decodeCredit_of_check bad))
    · exact .inr (exec_creditWordReceived_error up (decodeCredit_of_check bad))
  · exact exec_creditWordReceived_error up (decodeCredit_of_check (checkUnit_badCrc long bad))
  · rintro body rfl (length | ⟨b0, b1, rfl, bad⟩)
    · have two : body.length ≠ 2 := fun two => length (by simp [two])
      exact exec_creditWordReceived_error up ((decodeCredit_withCrc _ _).trans (creditOfBody_length two))
    · exact exec_creditWordReceived_error up ((decodeCredit_withCrc _ _).trans (creditOfBody_illegal bad))

end
end

section
/-! PROOFS. The two lanes: the searches that choose a channel, the grants, and the return path. -/

namespace Sys2Proof.Machine

/-! ### The searches over the channels (R37, R132, R136) -/

/-- A search finds the element at an index before which none passes. -/
theorem find?_eq_some_of_getElem? {α : Type} {q : α → Bool} {l : List α} {i : Nat} {a : α} (at_i : l[i]? = some a)
    (here : q a = true) (before : ∀ j < i, ∀ b, l[j]? = some b → q b = false) : l.find? q = some a := by
  obtain ⟨bound, eq⟩ := List.getElem?_eq_some_iff.1 at_i
  refine List.find?_eq_some_iff_getElem.2 ⟨here, i, bound, eq, fun j hj => ?_⟩
  simp [before j hj _ (List.getElem?_eq_getElem (hj.trans bound))]

/-- The lowest channel that passes a test is the one an ascending search finds. -/
theorem find?_allChannels {q : ChannelNo → Bool} {c : ChannelNo} (here : q c = true) (first : ∀ d, d < c → q d = false) :
    allChannels.find? q = some c := by
  have nth : ∀ i : ChannelNo, allChannels[i.val]? = some i := by decide
  refine find?_eq_some_of_getElem? (nth c) here fun j hj d at_j => ?_
  have same : some (⟨j, hj.trans c.isLt⟩ : ChannelNo) = some d := (nth ⟨j, hj.trans c.isLt⟩).symm.trans at_j
  exact first d (Option.some.inj same ▸ hj)

/-- The first channel after the pointer is the one the round-robin search finds. -/
theorem find?_searchAfter {p c : ChannelNo} {P : ChannelNo → Prop} {q : ChannelNo → Bool} (first : FirstAfter p P c)
    (test : ∀ d, q d = true ↔ P d) : (searchAfter p).find? q = some c := by
  obtain ⟨here, least⟩ := first
  have nth : ∀ p i : ChannelNo, (searchAfter p)[i.val]? = some (p + 1 + i) := by decide
  have back : ∀ p c : ChannelNo, p + 1 + (c - p - 1) = c := by decide
  have distance : ∀ p i : ChannelNo, p + 1 + i - p - 1 = i := by decide
  have at_c := nth p (c - p - 1)
  rw [back] at at_c
  refine find?_eq_some_of_getElem? at_c ((test c).2 here) fun j hj d at_j => Bool.eq_false_iff.2 fun passes => ?_
  have bound := hj.trans (c - p - 1).isLt
  have same : some (p + 1 + ⟨j, bound⟩) = some d := (nth p ⟨j, bound⟩).symm.trans at_j
  have near := least d ((test d).1 passes)
  rw [← Option.some.inj same, distance] at near
  exact absurd hj (Nat.not_lt.2 near)

/-! ### Grants (R132) -/

theorem State.grantDue_pos_iff (s : State) (c : ChannelNo) :
    decide (0 < s.grantDue c) = true ↔ s.Receives c ∧ (s.rxOf c).credit + (s.rxOf c).occupied < 4 := by
  rw [decide_eq_true_eq, State.grantDue, ← s.mayReceive_iff]
  split
  · next receives => simp only [receives, true_and]; omega
  · next closed => simp [closed]

theorem State.grant_eq (s : State) (c : ChannelNo) : s.grant c =
    { s with
      rx := s.rx.set c { s.rxOf c with credit := (s.rxOf c).credit + s.grantDue c }
      mgmt := { s.mgmt with returnUnit := some (.creditWord (encodeCredit c (s.grantDue c))) } } := rfl

/-! ### The return path (R137, R163) -/

theorem State.sendReturn_eq (s : State) (som : Bool) (kind : ReturnKind) (bytes : List Byte) :
    s.sendReturn som kind bytes = { s with mgmt := { s.mgmt with
      credits := s.mgmt.credits - 1
      seq := s.mgmt.seq + 1
      returnUnit := some (.segment (encodeSegment s.straps.mgmtSel s.mgmt.seq som (decide (bytes.length ≤ 64)) false
        (bytes.take 64)))
      returnMsg := some { kind := kind, rest := bytes.drop 64 } } } := by
  have last : (bytes.drop 64).isEmpty = decide (bytes.length ≤ 64) := by
    rw [Bool.eq_iff_iff, List.isEmpty_iff, List.drop_eq_nil_iff, decide_eq_true_eq]
  simp only [State.sendReturn, State.modMgmt, segmentMax, last]

theorem State.beginReturn_response {s : State} {bytes : List Byte} (unit : s.mgmt.unit = .responding)
    (response : s.mgmt.response = some bytes) : s.beginReturn = s.sendReturn true .response bytes := by
  simp only [State.beginReturn, unit, response]

/-- A notice's record fits one segment (R161). -/
theorem Notice.toBytes_length (n : Notice) (lost : Nat) : (n.toBytes lost).length ≤ 64 := by
  cases n <;>
    simp [Notice.toBytes, containerBytes, Header.toBytes, Notice.leaves, numLeaf_one, numLeaf_two, faultLeaf_eq,
      leafBytes_eq, numBytes_two, wordBytes]

theorem State.beginReturn_notice {s : State} {n : Notice} {later : List Notice}
    (noResponse : s.mgmt.unit ≠ .responding ∨ s.mgmt.response = none) (waiting : s.mgmt.notices = n :: later) :
    s.beginReturn = s.NoticeBegun n later := by
  have oldest : s.beginReturn = (s.modMgmt fun m => { m with notices := later }).sendReturn true
      (.notice s.mgmt.lost) (n.toBytes s.mgmt.lost) := by
    simp only [State.beginReturn]
    split
    · next unit response =>
      rcases noResponse with other | none
      · exact absurd unit other
      · cases none.symm.trans response
    · simp only [waiting]
  have short := n.toBytes_length s.mgmt.lost
  rw [oldest, State.sendReturn_eq]
  simp only [State.modMgmt, State.NoticeBegun, short, decide_true, List.take_of_length_le short,
    List.drop_eq_nil_of_le short]

theorem State.returnBegin_eq {s : State} (lane : s.LaneCanBegin) : s.returnBegin = s.beginReturn := by
  rw [State.returnBegin, if_pos (s.laneCanBegin_iff.2 lane)]

/-! ### The notices as bytes (R161) -/

/-- A container is its type's number with the form bit, its children's byte count, and the children. -/
theorem containerBytes_eq (t : RecType) (children : List Byte) :
    containerBytes t children = numBytes 2 (32768 + t.toNat) ++ numBytes 2 children.length ++ children := by
  have type : (Header.make .container t (BitVec.ofNat 16 children.length)).typeWord.toNat = 32768 + t.toNat := by
    refine (BitVec.toNat_append (BitVec.ofBool true ++ 0#3) t).trans ?_
    have high : (BitVec.ofBool true ++ 0#3).toNat <<< 12 = 2 ^ 15 := rfl
    rw [high]
    exact (Nat.two_pow_add_eq_or_of_lt (i := 15) (by omega) 1).symm
  simp only [containerBytes, Header.toBytes, wordBytes_eq_numBytes, type]
  simp [Header.make, numBytes_two_mod]

theorem numBytes_type (t : RecType) : numBytes 2 t.toNat = wordBytes (t.setWidth 16) := by
  rw [wordBytes_eq_numBytes, BitVec.toNat_setWidth_of_le (by decide)]

end Sys2Proof.Machine
end

section
/-! PROOFS. The obligations of the lanes. -/

section
open Sys2Proof Sys2Proof.Machine

/-- Settles O13: the ascending search finds the channel, whose grant is what its slots have left. -/
theorem grantFillsTheLowestChannel : Obligations.GrantFillsTheLowestChannel := by
  intro s c up between receives due first
  have found : s.firstGrant = some c := by
    refine find?_allChannels ((s.grantDue_pos_iff c).2 ⟨receives, due⟩) fun d below => Bool.eq_false_iff.2 fun pos => ?_
    obtain ⟨dReceives, dDue⟩ := (s.grantDue_pos_iff d).1 pos
    rcases first d below with closed | full
    · exact closed dReceives
    · omega
  have count : s.grantDue c = 4 - (s.rxOf c).occupied - (s.rxOf c).credit := by
    rw [State.grantDue, if_pos ((s.mayReceive_iff c).2 receives)]
  have credit : (s.rxOf c).credit + (4 - (s.rxOf c).occupied - (s.rxOf c).credit) = 4 - (s.rxOf c).occupied := by omega
  simp only [exec, execCreditWordGrant, s.returnLaneFree_iff.2 ⟨up, between⟩, if_true, found, State.grant_eq, count,
    credit]

/-- Settles O14: the round-robin search finds the channel. -/
theorem downstreamLaneIsRoundRobin : Obligations.DownstreamLaneIsRoundRobin := by
  intro s c g gs up idle first front
  have choice : s.sendChoice = some c := by
    simp only [State.sendChoice, up, idle, beq_self_eq_true, Option.isNone_none, Bool.and_self, if_true]
    exact find?_searchAfter first s.canSend_iff
  simp only [exec, execDownstreamSegmentSend, choice, State.sendHead, front, State.setTx]

/-- Settles O15, by the slot that frees: terminal or ordinary, with or without a flush pending. -/
theorem sentSegmentFreesItsSlot : Obligations.SentSegmentFreesItsSlot := by
  intro s c bytes g gs sending front
  have freed : (s.txOf c).freeHead =
      if g.terminal = false ∧ (s.txOf c).flushPending = true ∧ (s.txOf c).pendingBytes ≠ [] then
        { s.txOf c with
          egress := gs ++
            [{ payload := (s.txOf c).pendingBytes, som := !(s.txOf c).segmentSent, eom := false, abort := false }]
          segmentSent := true, pendingBytes := [], flushPending := false }
      else { s.txOf c with egress := gs } := by
    simp only [TxChannel.freeHead, front]
    exact if_congr (by simp [and_assoc]) rfl rfl
  simp only [exec, execDownstreamSegmentSent, sending, State.sentHead, State.modTx_eq, State.modCh_eq, freed]
  rfl

/-- Settles O16: the response first, and the notices with their bytes. -/
theorem responseGoesBeforeNotices : Obligations.ResponseGoesBeforeNotices := by
  refine ⟨fun s up idle noGrant credit => ?_, ?_, rfl, rfl, rfl, rfl, ?_⟩
  · have lane : s.LaneCanBegin := ⟨up, idle, noGrant, credit⟩
    have begun : exec .returnMessageBegin s = .next s.beginReturn := congrArg _ (State.returnBegin_eq lane)
    refine ⟨fun bytes unit response => ?_, fun n ns noResponse waiting => ?_⟩
    · rw [begun, State.beginReturn_response unit response, State.sendReturn_eq]
    · rw [begun, State.beginReturn_notice noResponse waiting]
  · intro lost depth failures c k r o t b n one high low
    refine ⟨?_, ?_, ?_, ?_⟩
    all_goals
      simp [Notice.toBytes, containerBytes_eq, Notice.leaves, Notice.type, numLeaf_one, numLeaf_two, faultLeaf_eq,
        leafBytes_eq, wordBytes, numBytes_type, Leaf.lost, Leaf.channel, Leaf.faultDepth, Leaf.ordinal, Leaf.type,
        Leaf.degradeReason, Leaf.backing, Leaf.failures, Leaf.bank, one, high, low]
      rfl
  · intro s kind rest up noGrant credit sending more
    have ready : s.returnReady = true := s.returnReady_iff.2 ⟨⟨up, fun m same => by
      cases sending.symm.trans same
      exact more⟩, noGrant, credit⟩
    simp only [exec, execReturnSegmentSend, sending, ready, if_true, State.sendReturn_eq]

end
end

section
/-! PROOFS. The end of a message: the unwind and the fault, the timers, and the management stream's ends. -/

namespace Sys2Proof.Machine

/-! ### The unwind and the fault (R23, R24) -/

theorem SpillPort.carries_iff (p : SpillPort) (c : ChannelNo) :
    p.carries c = true ↔ ∃ j q, p.inFlight = some (.data j q) ∧ j.channel = c := by
  simp only [SpillPort.carries]
  split
  · next j q flies => simp [flies]
  all_goals next flies => simp [flies]

/-- The output side of an unwind (R24). -/
theorem TxChannel.unwind_eq (t : TxChannel) (started a : Bool) : t.unwind started a =
    if started = true ∧ a = true then
      { t with
        egress := t.egress ++ [{ payload := [], som := !t.segmentSent, eom := false, abort := true }]
        segmentSent := true, pendingBytes := [], flushPending := false }
    else { t with pendingBytes := [], flushPending := false } := by
  simp only [TxChannel.unwind]
  exact if_congr (by simp) rfl rfl

/-- An unwind, block by block. -/
theorem State.unwind_eq (s : State) (c : ChannelNo) (a : Bool) (x : DrainExit) : s.unwind c a x =
    { s with
      spill := { s.spill with queue := s.spill.queue.filter fun j => j.channel != c }
      policy := match (s.ch c).bound with
        | none => s.policy
        | some b => s.policy.release b.bank
      tx := s.tx.set c ((s.txOf c).unwind (s.ch c).outputStarted a)
      rx := s.rx.set c { s.rxOf c with inUse := none }
      table := s.table.set c ((s.ch c).unwound (s.spill.carries c) x) } := by
  simp only [State.unwind, State.removeJob, State.releaseBound]
  cases (s.ch c).bound <;> rfl

/-! ### The timers (R30 to R32) -/

theorem State.stallDue_iff (s : State) (c : ChannelNo) :
    s.stallDue c = true ↔ s.TimerRuns c ∧ (s.ch c).stallTimer = 0 := by
  rw [State.stallDue, Bool.and_eq_true, s.timerRuns_iff, beq_iff_eq]

theorem State.structuralFault_eq (s : State) (k : FaultKind) (r : Reason) (n : Nat) :
    s.structuralFault k r n = s.StreamFaulted k r n := rfl

theorem State.tick_mgmt (s : State) : s.tick.mgmt =
    if s.mgmtStallRuns then { s.mgmt with stallTimer := s.mgmt.stallTimer - 1 } else s.mgmt := by
  simp only [State.tick]
  split <;> rfl

theorem State.tick_ch (s : State) (c : ChannelNo) : s.tick.ch c =
    if s.isData c && stallRuns (s.ch c) (s.rxOf c) then { s.ch c with stallTimer := (s.ch c).stallTimer - 1 }
    else s.ch c := by
  have ticked : s.tick.ch c = (s.mapCh fun c ch =>
      if s.isData c && stallRuns ch (s.rxOf c) then { ch with stallTimer := ch.stallTimer - 1 } else ch).ch c := by
    simp only [State.tick]
    split <;> rfl
  rw [ticked, State.mapCh_ch]

theorem State.tick_eq (s : State) : s.tick = { s with table := s.tick.table, mgmt := s.tick.mgmt } := by
  simp only [State.tick]
  split <;> rfl

/-! ### The segment in use of the management channel (R142) -/

section Finish
variable {s : State} {rest : List Byte} {eom : Bool}

theorem State.finishMgmtSegment_none (free : (s.rxOf s.straps.mgmtSel).inUse = none) : s.finishMgmtSegment = s := by
  simp only [State.finishMgmtSegment, free]

theorem State.finishMgmtSegment_more (used : (s.rxOf s.straps.mgmtSel).inUse = some { rest := rest, eom := eom })
    (more : rest ≠ []) : s.finishMgmtSegment = s := by
  simp [State.finishMgmtSegment, used, more]

theorem State.finishMgmtSegment_used (used : (s.rxOf s.straps.mgmtSel).inUse = some { rest := [], eom := false }) :
    s.finishMgmtSegment =
      { s with rx := s.rx.set s.straps.mgmtSel { s.rxOf s.straps.mgmtSel with inUse := none } } := by
  simp only [State.finishMgmtSegment, used]
  rfl

theorem State.finishMgmtSegment_clean (used : (s.rxOf s.straps.mgmtSel).inUse = some { rest := [], eom := true })
    (scopes : s.mgmt.collector.scopes = []) (pos : s.mgmt.collector.pos = .header []) :
    s.finishMgmtSegment = s.MgmtClosed := by
  simp only [State.finishMgmtSegment, used, scopes, pos]
  rfl

theorem State.finishMgmtSegment_ragged (used : (s.rxOf s.straps.mgmtSel).inUse = some { rest := [], eom := true })
    (within : ¬ (s.mgmt.collector.scopes = [] ∧ s.mgmt.collector.pos = .header [])) :
    s.finishMgmtSegment = s.StreamFaulted .ragged .none s.mgmt.collector.scopes.length := by
  have test : (s.mgmt.collector.scopes.isEmpty && s.mgmt.collector.pos == .header []) = false := by
    rw [Bool.eq_false_iff]
    simpa using within
  simp only [State.finishMgmtSegment, used, test]
  rfl

end Finish

/-! ### Taking a management segment (R142) -/

section Take
variable {s : State} {g : Segment} {gs : List Segment} (free : (s.rxOf s.straps.mgmtSel).inUse = none)
  (front : (s.rxOf s.straps.mgmtSel).ingress = g :: gs)
include free front

theorem exec_mgmtTakeSegment_idle (unit : s.mgmt.unit = .idle) : exec .mgmtTakeSegment s = .next (s.takeIdle g gs) := by
  simp only [exec, execMgmtTakeSegment, free, front, unit]

theorem exec_mgmtTakeSegment_collecting (unit : s.mgmt.unit = .collecting) :
    exec .mgmtTakeSegment s = .next (s.takeCollecting g gs) := by
  simp only [exec, execMgmtTakeSegment, free, front, unit]

end Take

end Sys2Proof.Machine
end

section
/-! PROOFS. The obligations of the unwind, the fault, the timers and the management segments. -/

section
open Sys2Proof Sys2Proof.Machine

/-- Settles O17, by what the message that was sent was, and what is left of the segment in use. -/
theorem sentMessagesSettle : Obligations.SentMessagesSettle := by
  refine ⟨?_, fun s carried sent => ?_⟩
  · intro s sent u
    have done : exec .responseSent s = .next s.responseSent := by simp only [exec, execResponseSent, sent]
    have opened (isOpen : s.mgmt.messageOpen = true) : s.responseSent = u.finishMgmtSegment := by
      simp only [State.responseSent, State.modMgmt, isOpen, if_true, u]
    refine ⟨fun closed => ?_, fun isOpen free => ?_, fun rest eom isOpen used => ⟨fun more => ?_, ?_, ?_, ?_⟩⟩
    · rw [done]
      simp only [State.responseSent, State.modMgmt, closed]
      rfl
    · rw [done, opened isOpen, State.finishMgmtSegment_none (s := u) free]
    · rw [done, opened isOpen, State.finishMgmtSegment_more (s := u) used more]
    · rintro rfl rfl
      rw [done, opened isOpen, State.finishMgmtSegment_used (s := u) used]
      rfl
    · rintro rfl rfl scopes pos
      rw [done, opened isOpen, State.finishMgmtSegment_clean (s := u) used scopes pos]
    · rintro rfl rfl within
      rw [done, opened isOpen, State.finishMgmtSegment_ragged (s := u) used within]
      rfl
  · simp only [exec, execNoticeSent, sent, State.modMgmt]

/-- Settles O18, by whether the channel's job is in flight. -/
theorem unwindEndsTheMessage : Obligations.UnwindEndsTheMessage := by
  intro s c a x flying next
  refine ⟨fun flies => ?_, fun idle => ?_⟩
  · have carries : s.spill.carries c = true := (s.spill.carries_iff c).2 flies
    rw [State.unwind_eq, carries, TxChannel.unwind_eq]
    rfl
  · have carries : s.spill.carries c = false := Bool.eq_false_iff.2 fun h => idle ((s.spill.carries_iff c).1 h)
    rw [State.unwind_eq, carries, TxChannel.unwind_eq]
    rfl

/-- Settles O19, by the definitions of a fault and of a queued notice. -/
theorem faultRecordsNotifiesUnwinds : Obligations.FaultRecordsNotifiesUnwinds := by
  refine ⟨fun s c k r a => rfl, fun s n => ⟨fun room => ?_, fun full => ?_⟩⟩
  · simp only [State.queueNotice, State.modMgmt, if_pos room]
  · simp only [State.queueNotice, State.modMgmt, if_neg (Nat.not_lt.2 full), satAdd]

/-- Settles O20, by whether each timer runs. -/
theorem timersRunDownToStall : Obligations.TimersRunDownToStall := by
  refine ⟨fun s => ⟨s.tick, rfl, s.tick_eq, fun c => ⟨fun runs => ?_, fun stopped => ?_⟩, fun runs => ?_, fun stopped => ?_⟩,
    fun s c runs zero => ?_, fun s runs zero => ?_⟩
  · rw [State.tick_ch, if_pos ((s.timerRuns_iff c).2 runs)]
  · rw [State.tick_ch, if_neg (mt (s.timerRuns_iff c).1 stopped)]
  · rw [State.tick_mgmt, if_pos (s.mgmtStallRuns_iff.2 runs)]
  · rw [State.tick_mgmt, if_neg (mt s.mgmtStallRuns_iff.1 stopped)]
  · simp only [exec, execStall, (s.stallDue_iff c).2 ⟨runs, zero⟩, if_true]
  · simp only [exec, execMgmtStallExpiry, s.mgmtStallRuns_iff.2 runs, zero, beq_self_eq_true, Bool.and_self, if_true]
    rfl

/-- Settles O21, by the unit's state, then by the segment's mark and flags in their order. -/
theorem managementTakesSegments : Obligations.ManagementTakesSegments := by
  refine ⟨fun s g gs unit free front => ⟨fun som noAbort => ?_, fun discarded => ?_⟩,
    ?_⟩
  · rw [exec_mgmtTakeSegment_idle free front unit]
    simp only [State.takeIdle, som, noAbort]
    rfl
  · rw [exec_mgmtTakeSegment_idle free front unit]
    rcases discarded with som | abort
    · simp only [State.takeIdle, som]
      rfl
    · simp only [State.takeIdle, abort, Bool.not_true, Bool.and_false]
      rfl
  · intro s g gs unit free front loaded popped faulted
    have taken := exec_mgmtTakeSegment_collecting free front unit
    refine ⟨fun seqBreak => ?_, fun seqBreak abort => ?_, fun seqBreak abort som => ?_, fun seqBreak abort som => ?_⟩
    · rw [taken, State.takeCollecting, if_pos seqBreak]
      rfl
    · have closed : popped.MgmtClosed = { popped with mgmt := { popped.mgmt with
          unit := .idle, messageOpen := false, collector := Collector.empty } } := by
        have freed : { popped.rxOf popped.straps.mgmtSel with inUse := none } = popped.rxOf popped.straps.mgmtSel := by
          simp only [popped, loaded, State.rxOf, Fin.getElem_fin, Vector.getElem_set_self]
          rw [← free]
          rfl
        rw [State.MgmtClosed, freed]
        simp [State.rxOf]
      rw [taken, State.takeCollecting, if_neg (by simp [seqBreak]), if_pos abort, closed]
      rfl
    · rw [taken, State.takeCollecting, if_neg (by simp [seqBreak]), if_neg (by simp [abort]), if_pos som]
      rfl
    · rw [taken, State.takeCollecting, if_neg (by simp [seqBreak]), if_neg (by simp [abort]), if_neg (by simp [som])]
      rfl

end
end

section
/-! PROOFS. Which channel the engine serves, and what it does with a segment it takes and at a segment's end. -/

namespace Sys2Proof.Machine

/-! ### The step the engine takes next (R36, R38) -/

section Step
variable {ch : Channel} {r : RxChannel}

theorem engineStep_await (state : ch.state = .await) (waits : r.ingress ≠ []) : engineStep ch r = some .awaitTake := by
  simp [engineStep, state, waits]

theorem engineStep_push (state : ch.state = .inMessage) (free : ch.egressBlocked = false) {p : PendingPush}
    (push : ch.pendingPush = some p) :
    engineStep ch r = some (if p.refused then .degradePush else .carryOutPush) := by
  simp [engineStep, state, free, push]

section Boundary
variable (state : ch.state = .inMessage) (free : ch.egressBlocked = false) (push : ch.pendingPush = none)
include state free push

theorem engineStep_completeClose {e : ScopeEntry} (close : ch.parse = .closePending e) :
    engineStep ch r = some .completeClose := by
  simp [engineStep, state, free, push, close, ParsePos.isClosePending]

theorem engineStep_beginClose (owed : ch.OwesClose) : engineStep ch r = some .beginClose := by
  have header : ch.parse = .header [] := owed.1
  simp [engineStep, state, free, push, header, ch.owedClose_iff.2 owed, ParsePos.isClosePending]

variable (owed : ¬ ch.OwesClose)
include owed

theorem engineStep_header {u : InUse} {got : List Byte} (used : r.inUse = some u) (parse : ch.parse = .header got) :
    engineStep ch r = some .completeHeader := by
  have owed : ch.owedClose = false := Bool.eq_false_iff.2 (mt ch.owedClose_iff.1 owed)
  simp [engineStep, state, free, push, used, parse, owed, ParsePos.isClosePending]

variable (close : ∀ e, ch.parse ≠ .closePending e)
include close

theorem engineStep_payload {u : InUse} (used : r.inUse = some u) (parse : ∀ got, ch.parse ≠ .header got) :
    engineStep ch r = some .payloadRun := by
  have owed : ch.owedClose = false := Bool.eq_false_iff.2 (mt ch.owedClose_iff.1 owed)
  cases pos : ch.parse with
  | header got => exact absurd pos (parse got)
  | copy n m => simp [engineStep, state, free, push, used, pos, owed, ParsePos.isClosePending]
  | skip n => simp [engineStep, state, free, push, used, pos, owed, ParsePos.isClosePending]
  | closePending e => exact absurd pos (close e)

theorem engineStep_noSegment (used : r.inUse = none) :
    engineStep ch r = if r.ingress.isEmpty then none else some .takeFlags := by
  have owed : ch.owedClose = false := Bool.eq_false_iff.2 (mt ch.owedClose_iff.1 owed)
  have close := ch.parse.isClosePending_eq_false_iff.2 close
  simp [engineStep, state, free, push, used, owed, close]

end Boundary
end Step

theorem engineStep_isSome_iff (ch : Channel) (r : RxChannel) : (engineStep ch r).isSome = true ↔
    (ch.state = .await ∧ r.ingress ≠ []) ∨ (ch.state = .inMessage ∧ ch.egressBlocked = false ∧
      (r.ingress ≠ [] ∨ r.inUse ≠ none ∨ (∃ e, ch.parse = .closePending e) ∨ ch.pendingPush ≠ none ∨
        ch.owedClose = true)) := by
  cases state : ch.state
  case await => by_cases waits : r.ingress = [] <;> simp [engineStep, state, waits]
  case inMessage =>
    cases blocked : ch.egressBlocked
    · cases push : ch.pendingPush with
      | some p => simp [engineStep_push state blocked push]
      | none =>
        by_cases close : ∃ e, ch.parse = .closePending e
        · obtain ⟨e, parse⟩ := close
          simp [engineStep_completeClose state blocked push parse, parse]
        · by_cases owed : ch.OwesClose
          · simp [engineStep_beginClose state blocked push owed, ch.owedClose_iff.2 owed]
          · have noClose := not_exists.1 close
            cases used : r.inUse with
            | none =>
              rw [engineStep_noSegment state blocked push owed noClose used, ch.owedClose_iff]
              by_cases waits : r.ingress = [] <;> simp [waits, close, owed]
            | some u =>
              by_cases header : ∃ got, ch.parse = .header got
              · obtain ⟨got, parse⟩ := header
                simp [engineStep_header state blocked push owed used parse]
              · simp [engineStep_payload state blocked push owed noClose used (not_exists.1 header)]
    · simp [engineStep, state, blocked]
  all_goals simp [engineStep, state]

/-! ### The channel served (R35 to R38) -/

section Served
variable (s : State)

theorem State.eligible_iff (c : ChannelNo) : (s.stepFor c).isSome = true ↔ s.Eligible c := by
  simp only [State.stepFor, State.Eligible, ← s.isData_iff]
  split
  · next data => simp only [data, true_and, engineStep_isSome_iff]
  · next mgmt => simp [mgmt]

theorem State.turnGoesOn_eq_some {c : ChannelNo} (turn : s.turn = some c) (eligible : s.Eligible c) :
    s.turnGoesOn = some c := by
  simp only [State.turnGoesOn, turn, (s.eligible_iff c).2 eligible, if_true]

theorem State.turnGoesOn_eq_none (ended : ∀ d, s.turn = some d → ¬ s.Eligible d) : s.turnGoesOn = none := by
  simp only [State.turnGoesOn]
  split
  · next c turn => rw [if_neg fun some => ended c turn ((s.eligible_iff c).1 some)]
  · rfl

theorem find?_searchAfter_iff {p c : ChannelNo} {P : ChannelNo → Prop} {q : ChannelNo → Bool}
    (test : ∀ d, q d = true ↔ P d) : (searchAfter p).find? q = some c ↔ FirstAfter p P c := by
  refine ⟨fun found => ?_, fun first => find?_searchAfter first test⟩
  obtain ⟨d, here, least⟩ := (measure fun d : ChannelNo => (d - p - 1).val).wf.has_min {d | P d}
    ⟨c, (test c).1 (List.find?_some found)⟩
  have first : FirstAfter p P d := ⟨here, fun e passes => Nat.not_lt.1 (least e passes)⟩
  obtain rfl : d = c := Option.some.inj ((find?_searchAfter first test).symm.trans found)
  exact first

theorem State.served_eligible {c : ChannelNo} (served : s.served = some c) : s.Eligible c := by
  rw [← s.eligible_iff]
  simp only [State.served] at served
  split at served
  · next d goesOn =>
    cases served
    simp only [State.turnGoesOn] at goesOn
    split at goesOn
    · split at goesOn
      · next some =>
        cases goesOn
        exact some
      · cases goesOn
    · cases goesOn
  · exact List.find?_some (p := fun c => (s.stepFor c).isSome) served

theorem State.servedFor_of_step {c : ChannelNo} {k : EngineStep} (served : s.served = some c)
    (step : engineStep (s.ch c) (s.rxOf c) = some k) : s.servedFor k = some c := by
  refine (s.servedFor_iff k c).2 ⟨served, ?_⟩
  rw [State.stepFor, if_pos ((s.isData_iff c).2 (s.served_eligible served).1), step]

end Served

/-! ### What follows a step (R40, R65, R67) -/

section Finish
variable {before s : State} {c : ChannelNo} {rest : List Byte} {eom : Bool}

theorem State.finishStep_none (free : (s.rxOf c).inUse = none) : before.finishStep s c = s := by
  simp only [State.finishStep, free]

theorem State.finishStep_more (used : (s.rxOf c).inUse = some { rest := rest, eom := eom })
    (more : rest ≠ [] ∨ (s.ch c).OwesClose) : before.finishStep s c = s := by
  have test : (!rest.isEmpty || (s.ch c).owedClose) = true := by
    rw [Bool.or_eq_true, Channel.owedClose_iff]
    simpa using more
  simp only [State.finishStep, used, test, if_true]

variable (notOwed : ¬ (s.ch c).OwesClose)
include notOwed

theorem State.finishStep_usedUp (used : (s.rxOf c).inUse = some { rest := [], eom := false }) :
    before.finishStep s c = s.useUp c := by
  have owed : (s.ch c).owedClose = false := Bool.eq_false_iff.2 (mt (s.ch c).owedClose_iff.1 notOwed)
  simp [State.finishStep, used, owed]

theorem State.finishStep_clean (used : (s.rxOf c).inUse = some { rest := [], eom := true })
    (clean : (s.ch c).EndsCleanly) : before.finishStep s c = s.endMessage c := by
  have owed : (s.ch c).owedClose = false := Bool.eq_false_iff.2 (mt (s.ch c).owedClose_iff.1 notOwed)
  simp [State.finishStep, used, owed, (s.ch c).cleanEnd_iff.2 clean]

theorem State.finishStep_ragged (used : (s.rxOf c).inUse = some { rest := [], eom := true })
    (ragged : ¬ (s.ch c).EndsCleanly) : before.finishStep s c = (before.withhold s c).engineFault c .ragged .none := by
  have owed : (s.ch c).owedClose = false := Bool.eq_false_iff.2 (mt (s.ch c).owedClose_iff.1 notOwed)
  have clean : (s.ch c).cleanEnd = false := Bool.eq_false_iff.2 (mt (s.ch c).cleanEnd_iff.1 ragged)
  simp [State.finishStep, used, owed, clean]

end Finish

/-- A message that can end cleanly owes no close: it has no scope. -/
theorem Channel.EndsCleanly.not_owes {ch : Channel} (clean : ch.EndsCleanly) : ¬ ch.OwesClose := by
  rintro ⟨-, -, e, last, -⟩
  rw [clean.1] at last
  cases last

/-- The clean end, block by block (R65). -/
theorem State.endMessage_eq (s : State) (c : ChannelNo) : s.endMessage c =
    { s with
      turn := none
      rx := s.rx.set c { s.rxOf c with inUse := none }
      tx := s.tx.set c
        (if (s.ch c).outputStarted = true then
          { s.txOf c with
            egress := (s.txOf c).egress ++
              [{ payload := (s.txOf c).pendingBytes, som := !(s.txOf c).segmentSent, eom := true, abort := false }]
            segmentSent := true, pendingBytes := [], flushPending := false }
        else s.txOf c)
      table := s.table.set c { s.ch c with
        state := .await, bound := none
        stats := { (s.ch c).stats with completed := min 65535 ((s.ch c).stats.completed + 1) } }
      policy := match (s.ch c).bound with
        | none => s.policy
        | some b => s.policy.release b.bank } := by
  simp only [State.endMessage, State.releaseBound]
  cases (s.ch c).bound <;> rfl

theorem State.useUp_eq (s : State) (c : ChannelNo) : s.useUp c =
    { s with
      turn := none
      rx := s.rx.set c { s.rxOf c with inUse := none }
      tx := s.tx.set c (if (s.rxOf c).ingress = [] then (s.txOf c).flush else s.txOf c) } := by
  have test : (if (s.rxOf c).ingress.isEmpty = true then (s.txOf c).flush else s.txOf c) =
      if (s.rxOf c).ingress = [] then (s.txOf c).flush else s.txOf c := if_congr List.isEmpty_iff rfl rfl
  rw [← test]
  rfl

/-! ### Taking a segment (R18, R19, R39) -/

/-- A reference taken and given back leaves the Policy Store as it was: the active bank is never DRAINING (R106). -/
theorem PolicyStore.release_bind (p : PolicyStore) : (p.bind p.active).release p.active = p := by
  obtain ⟨a, b, active, staging⟩ := p
  cases active <;> rfl

section Await
variable {s : State} {c : ChannelNo} {g : Segment} {gs : List Segment} (front : (s.rxOf c).ingress = g :: gs)
include front

theorem State.awaitTake_discards (discarded : g.som = false ∨ g.abort = true) : s.awaitTake c =
    { s with turn := none, rx := s.rx.set c { s.rxOf c with ingress := gs } } := by
  have test : (g.abort || !g.som) = true := by
    rw [Bool.or_eq_true, Bool.not_eq_true']
    exact discarded.symm
  simp only [State.awaitTake, front, test, if_true]
  rfl

/-- The message opened by the segment at the front. -/
def State.Started (s : State) (c : ChannelNo) (g : Segment) (gs : List Segment) : State :=
  { s with
    rx := s.rx.set c { s.rxOf c with ingress := gs, inUse := some { rest := g.payload, eom := g.eom } }
    policy := s.policy.bind s.policy.active
    tx := s.tx.set c { s.txOf c with segmentSent := false }
    table := s.table.set c ((s.ch c).startMessage s.policy.active) }

theorem State.awaitTake_starts (som : g.som = true) (abort : g.abort = false) : s.awaitTake c =
    State.finishStep (s.modRx c fun r => { r with ingress := gs }) (s.Started c g gs) c := by
  simp only [State.awaitTake, front, som, abort]
  simp [State.startMessage, State.Started, State.modPolicy, State.setRx, State.setTx, State.setCh, State.rxOf, State.txOf,
    State.ch]

end Await

end Sys2Proof.Machine
end

section
/-! PROOFS. The obligations of the engine's service and of the segments it takes. -/

section
open Sys2Proof Sys2Proof.Machine

/-- Settles O24: the turn in progress, the search after the pointer, and the step by the channel's record. -/
theorem engineServesChannelsInTurn : Obligations.EngineServesChannelsInTurn := by
  refine ⟨fun s c => ⟨fun turn eligible => ?_, fun ended => ?_, fun none => ?_⟩,
    fun s => ⟨fun ⟨c, turn, eligible⟩ => ?_, fun ended => ?_⟩, fun s c served => ⟨fun await => ?_, fun run => ?_⟩⟩
  · simp only [State.served, s.turnGoesOn_eq_some turn eligible]
  · simp only [State.served, s.turnGoesOn_eq_none ended]
    exact find?_searchAfter_iff s.eligible_iff
  · simp only [State.served, s.turnGoesOn_eq_none fun d _ => none d]
    exact List.find?_eq_none.2 fun d _ step => none d ((s.eligible_iff d).1 step)
  · rw [State.settleTurn, s.turnGoesOn_eq_some turn eligible, ← turn]
  · rw [State.settleTurn, s.turnGoesOn_eq_none ended]
  · have eligible := (s.served_eligible served).2
    simp only [await, reduceCtorEq, false_and, or_false, true_and] at eligible
    exact s.servedFor_of_step served (engineStep_await await eligible)
  · have eligible := (s.served_eligible served).2
    simp only [run, reduceCtorEq, false_and, false_or, true_and] at eligible
    obtain ⟨free, -⟩ := eligible
    refine ⟨fun p push => s.servedFor_of_step served (engineStep_push run free push), fun push =>
      ⟨fun e close => s.servedFor_of_step served (engineStep_completeClose run free push close),
        fun owed => s.servedFor_of_step served (engineStep_beginClose run free push owed),
        fun close owed => ⟨fun used => ?_, fun used => ?_⟩⟩⟩
    · obtain ⟨u, used⟩ := Option.ne_none_iff_exists'.1 used
      refine ⟨fun got parse => ?_, fun n m parse => ?_, fun n parse => ?_⟩
      · exact s.servedFor_of_step served (engineStep_header run free push owed used parse)
      · exact s.servedFor_of_step served (engineStep_payload run free push owed close used (by simp [parse]))
      · exact s.servedFor_of_step served (engineStep_payload run free push owed close used (by simp [parse]))
    · have step := engineStep_noSegment (r := s.rxOf c) run free push owed close used
      have some := (s.eligible_iff c).2 (s.served_eligible served)
      rw [State.stepFor, if_pos ((s.isData_iff c).2 (s.served_eligible served).1), step] at some
      refine s.servedFor_of_step served (step.trans ?_)
      split at some
      · cases some
      · next waits => rw [if_neg waits]

/-- Settles O27, by the four ways a step can end. -/
theorem segmentEndIsConsidered : Obligations.SegmentEndIsConsidered := by
  intro before s c rest eom used
  refine ⟨State.finishStep_more used, ?_, ?_, ?_⟩
  · rintro rfl notOwed rfl
    rw [State.finishStep_usedUp notOwed used, State.useUp_eq]
  · rintro rfl rfl clean
    exact (State.finishStep_clean clean.not_owes used clean).trans (s.endMessage_eq c)
  · rintro rfl notOwed rfl ragged
    rw [State.finishStep_ragged notOwed used ragged, State.engineFault, State.withhold_eq]

end
end

section
/-! PROOFS. The segments that the engine takes, with the turn's step begun. -/

namespace Sys2Proof.Machine

section Started
variable (s : State) (c : ChannelNo) (g : Segment) (gs : List Segment)

@[simp] theorem State.Started_rxOf : (s.Started c g gs).rxOf c =
    { s.rxOf c with ingress := gs, inUse := some { rest := g.payload, eom := g.eom } } := by
  simp [State.Started, State.rxOf]

@[simp] theorem State.Started_ch : (s.Started c g gs).ch c = (s.ch c).startMessage s.policy.active := by
  simp [State.Started, State.ch]

theorem Channel.startMessage_endsCleanly (ch : Channel) (n : BankName) : (ch.startMessage n).EndsCleanly :=
  ⟨rfl, rfl, rfl, rfl⟩

/-- A zero-length segment with SOM and EOM starts a message and ends it at once: the reference is given back. -/
theorem State.Started_ended : (s.Started c g gs).endMessage c =
    { s with
      turn := none
      rx := s.rx.set c { s.rxOf c with ingress := gs, inUse := none }
      tx := s.tx.set c { s.txOf c with segmentSent := false }
      table := s.table.set c ((s.ch c).startMessage s.policy.active).ended } := by
  rw [State.endMessage_eq, State.Started_ch, State.Started_rxOf]
  simp only [Channel.startMessage, if_false, Bool.false_eq_true]
  simp only [State.Started, State.txOf, Vector.set_set, PolicyStore.release_bind]
  simp
  rfl

end Started

/-- What follows a step depends on the state before it by what the channel's assembler, output and stack were (R67). -/
theorem State.finishStep_before {a b : State} {s : State} {c : ChannelNo} (tx : a.txOf c = b.txOf c)
    (started : (a.ch c).outputStarted = (b.ch c).outputStarted)
    (resident : (a.ch c).resident.length = (b.ch c).resident.length) : a.finishStep s c = b.finishStep s c := by
  simp only [State.finishStep, State.withhold, tx, started, resident]

end Sys2Proof.Machine
end

section
/-! PROOFS. The obligations of the segments the engine takes. -/

section
open Sys2Proof Sys2Proof.Machine

/-- Settles O25, by the flags of the segment at the front. -/
theorem awaitTakesSegment : Obligations.AwaitTakesSegment := by
  intro s c g gs served front
  have front' : ((s.Stepping c).rxOf c).ingress = g :: gs := by rw [State.Stepping_rxOf, front]
  have taken : exec .awaitTakeSegment s = .next ((s.Stepping c).awaitTake c) :=
    congrArg _ (s.engineDo_eq .awaitTake State.awaitTake c served)
  rw [taken]
  refine ⟨fun discarded => ?_, fun som abort more => ?_, fun som abort empty eom => ?_⟩
  · rw [State.awaitTake_discards front' discarded]
    simp only [State.Stepping_rx, State.Stepping_rxOf]
  · rw [State.awaitTake_starts front' som abort,
      State.finishStep_more (rest := g.payload) (eom := g.eom) (by rw [State.Started_rxOf]) (.inl more)]
    simp only [State.Started, State.Stepping_rx, State.Stepping_rxOf, State.Stepping_policy, State.Stepping_tx,
      State.Stepping_txOf, State.Stepping_table, State.Stepping_ch]
    rfl
  · have clean : (((s.Stepping c).Started c g gs).ch c).EndsCleanly := by
      rw [State.Started_ch]
      exact Channel.startMessage_endsCleanly _ _
    rw [State.awaitTake_starts front' som abort, State.finishStep_clean clean.not_owes
      (by rw [State.Started_rxOf, empty, eom]) clean, State.Started_ended]
    simp only [State.Stepping_rx, State.Stepping_rxOf, State.Stepping_tx, State.Stepping_txOf, State.Stepping_table,
      State.Stepping_ch]
    rfl

/-- Settles O26, by the mark and the flags of the segment in their order. -/
theorem flagsAreTakenInOrder : Obligations.FlagsAreTakenInOrder := by
  intro s c g gs served front loaded kept
  have front' : ((s.Stepping c).rxOf c).ingress = g :: gs := by rw [State.Stepping_rxOf, front]
  have taken : exec .takeSegmentFlags s = .next ((s.Stepping c).takeFlags c) :=
    congrArg _ (s.engineDo_eq .takeFlags State.takeFlags c served)
  have load : (s.Stepping c).modCh c Channel.loadStall = kept := by
    simp only [State.modCh_eq, State.setCh, State.Stepping_table, State.Stepping_ch]
    rfl
  have flags : (s.Stepping c).takeFlags c =
      if g.seqBreak then kept.engineFault c .gap .none
      else if g.abort then (kept.modRx c fun r => { r with ingress := gs }).upstreamAbort c
      else if g.som then kept.engineFault c .ragged .none
      else kept.finishStep
        (kept.modRx c fun r => { r with ingress := gs, inUse := some { rest := g.payload, eom := g.eom } }) c := by
    rw [State.takeFlags, front', load]
  rw [taken, flags]
  refine ⟨fun seqBreak => ?_, fun seqBreak abort => ?_, fun seqBreak abort som => ?_, fun seqBreak abort som => ?_⟩
  · rw [if_pos seqBreak]
    rfl
  · have counted : (kept.modRx c fun r => { r with ingress := gs }).modCh c (fun ch => { ch with
        stats := { ch.stats with aborted := satAdd count16Max ch.stats.aborted 1 } }) =
        { s.Stepping c with
          rx := s.rx.set c { s.rxOf c with ingress := gs }
          table := s.table.set c { loaded with
            stats := { (s.ch c).stats with aborted := min 65535 ((s.ch c).stats.aborted + 1) } } } := by
      simp [kept, State.setCh, State.setRx, State.ch, State.rxOf]
      rfl
    rw [if_neg (by simp [seqBreak]), if_pos abort, State.upstreamAbort, counted]
  · rw [if_neg (by simp [seqBreak]), if_neg (by simp [abort]), if_pos som]
    rfl
  · intro u
    have used : (kept.modRx c fun r => { r with ingress := gs, inUse := some { rest := g.payload, eom := g.eom } }) = u := by
      simp [kept, u, State.setRx, State.rxOf]
    have inUse : (u.rxOf c).inUse = some { rest := g.payload, eom := g.eom } := by simp [u, State.rxOf]
    rw [if_neg (by simp [seqBreak]), if_neg (by simp [abort]), if_neg (by simp [som]), used]
    refine ⟨fun more => by rw [State.finishStep_more inUse (.inl more)], fun _ => ?_⟩
    rw [State.finishStep_before (b := s)]
    · simp [kept, State.txOf]
    · simp [kept, loaded, State.ch]
    · simp [kept, loaded, State.ch]

end
end

section
/-! PROOFS. What a header's tests decide, and what is asked for its record. -/

namespace Sys2Proof.Machine

/-! ### The tests of a header (R5) -/

section Tests
variable {h : Header}

theorem headerFault_reserved (bits : h.reserved ≠ 0) : headerFault h = some .reservedBits :=
  if_pos (bne_iff_ne.2 bits)

section Passing
variable (bits : h.reserved = 0)
include bits

theorem headerFault_badEnd (type : h.type = 0) (notEnd : h.form = .container ∨ h.length ≠ 0) :
    headerFault h = some .badEnd := by
  have passes : (h.reserved != 0) = false := bne_eq_false_iff_eq.2 bits
  have fails : (h.type == 0 && !h.isEnd) = true := by
    rcases notEnd with form | length
    · simp [type, Header.isEnd, form]
    · simpa [type, Header.isEnd] using (Or.inr length : h.form ≠ .leaf ∨ h.length ≠ 0)
  simp only [headerFault, passes, fails, Bool.false_eq_true, if_false, if_true]

theorem headerFault_of_passing (passes : (h.type == 0 && !h.isEnd) = false) :
    headerFault h = if (h.form == .leaf && h.isIndefinite) = true then some .leafIndefinite else none := by
  have reserved : (h.reserved != 0) = false := bne_eq_false_iff_eq.2 bits
  simp only [headerFault, reserved, passes, Bool.false_eq_true, if_false]

theorem headerFault_leafIndefinite (type : h.type ≠ 0) (form : h.form = .leaf) (length : h.length = 0xFFFF) :
    headerFault h = some .leafIndefinite := by
  rw [headerFault_of_passing bits (by rw [beq_eq_false_iff_ne.2 type, Bool.false_and])]
  exact if_pos (Bool.and_eq_true_iff.2 ⟨beq_iff_eq.2 form, beq_iff_eq.2 length⟩)

theorem headerFault_none (notBad : h.type ≠ 0 ∨ (h.form = .leaf ∧ h.length = 0))
    (bounded : ¬ (h.form = .leaf ∧ h.length = 0xFFFF)) : headerFault h = none := by
  have passes : (h.type == 0 && !h.isEnd) = false := by
    rcases notBad with type | ⟨form, length⟩
    · rw [beq_eq_false_iff_ne.2 type, Bool.false_and]
    · simp [Header.isEnd, form, length]
  rw [headerFault_of_passing bits passes]
  refine if_neg fun leaf => bounded ?_
  rw [Bool.and_eq_true_iff, beq_iff_eq] at leaf
  exact ⟨leaf.1, beq_iff_eq.1 leaf.2⟩

end Passing

/-- Only a container is indefinite (R5). -/
theorem Header.container_of_indefinite (passes : headerFault h = none) (indefinite : h.isIndefinite = true) :
    h.form = .container := by
  simp only [headerFault, indefinite] at passes
  split at passes
  · cases passes
  · split at passes
    · cases passes
    · split at passes
      · cases passes
      · next notLeaf =>
        cases form : h.form
        · exact absurd (by rw [form]; rfl) notLeaf
        · rfl

end Tests

theorem Header.isIndefinite_iff (h : Header) : h.isIndefinite = true ↔ h.length = 0xFFFF := beq_iff_eq

theorem Header.isIndefinite_eq_false_iff (h : Header) : h.isIndefinite = false ↔ h.length ≠ 0xFFFF := by
  rw [Bool.eq_false_iff, ne_eq, h.isIndefinite_iff]

/-! ### Lookups (R42) -/

theorem PolicyEntry.hasKey_iff (e : PolicyEntry) (set : Fin 8) (type : RecType) :
    e.hasKey set type = true ↔ e.set = set ∧ e.type = type := by
  simp [PolicyEntry.hasKey]

/-- An ordered bank has at most one entry for a key, so a search finds it. -/
theorem Bank.Ordered.find_eq {b : Bank} (ordered : b.Ordered) {e : PolicyEntry} (mem : e ∈ b.entries) :
    b.find e.set e.type = some e := by
  have keys : b.entries.Pairwise fun e f => ¬ (e.set = f.set ∧ e.type = f.type) := ordered.2.imp fun before same => by
    rcases before with set | ⟨-, type⟩
    · exact absurd same.1 (ne_of_lt set)
    · exact absurd (congrArg BitVec.toNat same.2) (ne_of_lt type)
  have here : b.entries.find? (fun f => f.hasKey e.set e.type) ≠ none := fun none =>
    List.find?_eq_none.1 none e mem ((e.hasKey_iff _ _).2 ⟨rfl, rfl⟩)
  obtain ⟨f, found⟩ := Option.ne_none_iff_exists'.1 here
  have key := (f.hasKey_iff _ _).1 (List.find?_some (p := fun f : PolicyEntry => f.hasKey e.set e.type) found)
  have symmetric : Std.Symm fun e f : PolicyEntry => ¬ (e.set = f.set ∧ e.type = f.type) :=
    ⟨fun _ _ ne same => ne ⟨same.1.symm, same.2.symm⟩⟩
  obtain rfl : f = e := by
    by_contra differs
    exact keys.forall (List.mem_of_find?_eq_some found) mem differs key
  exact found

theorem Bank.find_eq_none {b : Bank} {set : Fin 8} {type : RecType}
    (absent : ∀ e ∈ b.entries, ¬ (e.set = set ∧ e.type = type)) : b.find set type = none :=
  List.find?_eq_none.2 fun e mem key => absent e mem ((e.hasKey_iff _ _).1 key)

/-! ### Handlings (R43 to R52) -/

section Handlings
variable {h : Header} (type : RecType)

theorem passHandling_bounded (bounded : h.isIndefinite = false) :
    passHandling h type = .bulk (some (Header.make h.form type h.length)) h.length.toNat 0 := by
  simp [passHandling, bounded]

theorem passHandling_indefinite (passes : headerFault h = none) (indefinite : h.isIndefinite = true) :
    passHandling h type = .scope .verbatim (some (Header.make .container type 0xFFFF)) := by
  simp only [passHandling, indefinite, if_true, Header.container_of_indefinite passes indefinite,
    h.isIndefinite_iff.1 indefinite]

theorem actionHandling_pass : actionHandling h type .pass = passHandling h type := rfl

theorem actionHandling_drop : actionHandling h type .drop = discardHandling h := rfl

theorem discardHandling_bounded (bounded : h.isIndefinite = false) :
    discardHandling h = .bulk none 0 h.length.toNat := by
  simp [discardHandling, bounded]

theorem discardHandling_indefinite (indefinite : h.isIndefinite = true) : discardHandling h = .scope .discard none := by
  simp [discardHandling, indefinite]

theorem actionHandling_descend_container (form : h.form = .container) (length : h.length ≠ 0) :
    actionHandling h type .descend = .scope .filter (some (Header.make .container type 0xFFFF)) :=
  if_pos (Bool.and_eq_true_iff.2 ⟨beq_iff_eq.2 form, bne_iff_ne.2 length⟩)

theorem actionHandling_descend_pass (whole : h.form = .leaf ∨ h.length = 0) :
    actionHandling h type .descend = passHandling h type := by
  have test : (h.form == .container && h.length != 0) = false := by
    rcases whole with form | length
    · simp [form]
    · simp [length]
  exact if_neg (Bool.eq_false_iff.1 test)

theorem actionHandling_truncate_leaf (limit : Nat) (form : h.form = .leaf) : actionHandling h type (.truncate limit) =
    .bulk (some (Header.make .leaf type (BitVec.ofNat 16 (min h.length.toNat limit)))) (min h.length.toNat limit)
      (h.length.toNat - min h.length.toNat limit) := by
  simp [actionHandling, form]

theorem actionHandling_truncate_container (limit : Nat) (form : h.form = .container) :
    actionHandling h type (.truncate limit) = passHandling h type := by
  simp [actionHandling, form]

end Handlings
end Sys2Proof.Machine
end

section
/-! PROOFS. The obligations of the header tests and of the handlings. -/

section
open Sys2Proof Sys2Proof.Machine

/-- Settles O28, by the order of the tests and the mode of the innermost scope. -/
theorem headerTestsInOrder : Obligations.HeaderTestsInOrder := by
  refine ⟨fun h => ⟨headerFault_reserved, headerFault_badEnd, headerFault_leafIndefinite, headerFault_none⟩,
    fun h r => ⟨rfl, fun bounded => ?_, fun indefinite => ?_⟩, fun r n => ⟨rfl, rfl⟩⟩
  · have bounded := h.isIndefinite_eq_false_iff.2 bounded
    simp only [ScopeMode.deductChild, bounded, Header.size, Bool.false_eq_true, if_false]
    rfl
  · have indefinite := h.isIndefinite_iff.2 indefinite
    simp only [ScopeMode.deductChild, indefinite, if_true]

/-- Settles O30, by the entry found or none, and by the record's form and length. -/
theorem actionsByFormAndLength : Obligations.ActionsByFormAndLength := by
  refine ⟨fun s c bank set type bound => ⟨?_, fun absent => ?_⟩, fun h type limit passes => ?_⟩
  · rintro ordered e mem rfl rfl
    simp only [State.lookupFor, bound, Bank.lookup, ordered.find_eq mem]
  · simp only [State.lookupFor, bound, Bank.lookup, Bank.find_eq_none absent]
    rfl
  · intro n carried copied
    have whole (bounded : h.length ≠ 0xFFFF) (t : RecType) : passHandling h t = carried t :=
      passHandling_bounded t (h.isIndefinite_eq_false_iff.2 bounded)
    refine ⟨fun bounded => ?_, fun indefinite => ?_, fun plain => ?_, fun form length => ?_, fun form => ?_, fun form => ?_⟩
    · have skipped := discardHandling_bounded (h.isIndefinite_eq_false_iff.2 bounded)
      exact ⟨whole bounded type, skipped, whole bounded h.type, skipped⟩
    · have indefinite := h.isIndefinite_iff.2 indefinite
      have dropped := discardHandling_indefinite indefinite
      exact ⟨passHandling_indefinite type passes indefinite, dropped, passHandling_indefinite h.type passes indefinite,
        dropped⟩
    · refine (actionHandling_descend_pass type plain).trans (whole (fun indefinite => ?_) type)
      have form := Header.container_of_indefinite passes (h.isIndefinite_iff.2 indefinite)
      rcases plain with leaf | empty
      · cases leaf.symm.trans form
      · cases empty.symm.trans indefinite
    · exact actionHandling_descend_container type form length
    · exact actionHandling_truncate_leaf type limit form
    · exact actionHandling_truncate_container type limit form

end
end

section
/-! PROOFS. The assembler, the payload runs, and a step not taken for want of room. -/

namespace Sys2Proof.Machine

/-! ### The assembler (R64, R135) -/

namespace TxChannel
variable (t : TxChannel) (unit : List Byte)

theorem hand_short (short : t.pendingBytes.length + unit.length < 64) :
    t.hand unit = { t with pendingBytes := t.pendingBytes ++ unit } :=
  if_neg (by rw [List.length_append]; omega)

theorem hand_full (full : 64 ≤ t.pendingBytes.length + unit.length) : t.hand unit =
    { t with
      egress := t.egress ++
        [{ payload := (t.pendingBytes ++ unit).take 64, som := !t.segmentSent, eom := false, abort := false }]
      segmentSent := true
      flushPending := false
      pendingBytes := (t.pendingBytes ++ unit).drop 64 } :=
  if_pos (by rwa [List.length_append])

theorem hand_stream : (t.hand unit).stream = t.stream ++ unit := by
  by_cases full : 64 ≤ t.pendingBytes.length + unit.length
  · rw [t.hand_full unit full]
    simp [stream]
  · rw [t.hand_short unit (Nat.not_le.1 full)]
    simp [stream]

theorem flush_empty (none : t.pendingBytes = []) : t.flush = t :=
  if_pos (by rw [none]; rfl)

section Pending
variable (some : t.pendingBytes ≠ [])
include some

theorem flush_free (free : (t.egress.filter fun g => !g.eom && !g.abort).length < 7) : t.flush =
    { t with
      egress := t.egress ++ [{ payload := t.pendingBytes, som := !t.segmentSent, eom := false, abort := false }]
      segmentSent := true
      flushPending := false
      pendingBytes := [] } := by
  have test : t.ordinaryFree = true := by
    simpa [ordinaryFree, ordinaryCount, EgressSegment.terminal] using free
  simp only [flush, List.isEmpty_iff, some, if_false, test, if_true]
  rfl

theorem flush_marked (used : 7 ≤ (t.egress.filter fun g => !g.eom && !g.abort).length) :
    t.flush = { t with flushPending := true } := by
  have test : t.ordinaryFree = false := by
    simpa [ordinaryFree, ordinaryCount, EgressSegment.terminal] using used
  simp only [flush, List.isEmpty_iff, some, if_false, test, Bool.false_eq_true]

end Pending

theorem flush_stream : t.flush.stream = t.stream := by
  by_cases none : t.pendingBytes = []
  · rw [t.flush_empty none]
  · rcases Nat.lt_or_ge (t.egress.filter fun g => !g.eom && !g.abort).length 7 with free | used
    · rw [t.flush_free none free]
      simp [stream]
    · rw [t.flush_marked none used]
      rfl

/-- The bytes handed one by one (R53). -/
def handEach (t : TxChannel) (bs : List Byte) : TxChannel := bs.foldl (fun t b => t.hand [b]) t

end TxChannel

/-! ### Payload runs (R53) -/

/-- A COPY run hands the longest run of bytes within its count that have room. -/
theorem copyRun_eq (t : TxChannel) (started : Bool) (n : Nat) (bs : List Byte) : ∃ k, k ≤ n ∧ k ≤ bs.length ∧
    copyRun t started n bs =
      { tx := t.handEach (bs.take k), started := started || decide (0 < k), count := n - k, rest := bs.drop k } ∧
    (∀ j < k, (t.handEach (bs.take j)).Room (started || decide (0 < j)) 1) ∧
    (k < n → k < bs.length → ¬ (t.handEach (bs.take k)).Room (started || decide (0 < k)) 1) := by
  induction n generalizing t started bs with
  | zero => exact ⟨0, Nat.le_refl _, Nat.zero_le _, by simp [copyRun, TxChannel.handEach], by simp, by simp⟩
  | succ n ih =>
    cases bs with
    | nil => exact ⟨0, Nat.zero_le _, Nat.le_refl _, by simp [copyRun, TxChannel.handEach], by simp, by simp⟩
    | cons b bs =>
      by_cases room : t.Room started 1
      · obtain ⟨k, hn, hbs, eq, each, stops⟩ := ih (t.hand [b]) true bs
        refine ⟨k + 1, Nat.succ_le_succ hn, Nat.succ_le_succ hbs, ?_, fun j below => ?_, fun more left => ?_⟩
        · rw [copyRun, if_pos ((t.room_iff started 1).2 room), eq]
          simp [TxChannel.handEach]
        · cases j with
          | zero => simpa [TxChannel.handEach] using room
          | succ j => simpa [TxChannel.handEach] using each j (Nat.lt_of_succ_lt_succ below)
        · simpa [TxChannel.handEach] using stops (Nat.lt_of_succ_lt_succ more) (Nat.lt_of_succ_lt_succ left)
      · refine ⟨0, Nat.zero_le _, Nat.zero_le _, ?_, by simp, fun _ _ => by simpa [TxChannel.handEach] using room⟩
        rw [copyRun, if_neg fun test => room ((t.room_iff started 1).1 test)]
        simp [TxChannel.handEach]

namespace State
variable {s : State} {c : ChannelNo} {rest : List Byte} {eom : Bool}

theorem payloadStep_skip {n : Nat} (parse : (s.ch c).parse = .skip n)
    (used : (s.rxOf c).inUse = some { rest := rest, eom := eom }) : s.payloadStep c = s.finishStep
      { s with
        rx := s.rx.set c { s.rxOf c with inUse := some { rest := rest.drop n, eom := eom } }
        table := s.table.set c { s.ch c with
          parse := if rest.length < n then .skip (n - rest.length) else .header [] } } c := by
  simp only [payloadStep, used, parse, ParsePos.payload, Nat.lt_irrefl, if_false, Nat.sub_pos_iff_lt]
  rfl

theorem payloadStep_copy {n m k : Nat} {tx : TxChannel} {started : Bool} (parse : (s.ch c).parse = .copy n m)
    (used : (s.rxOf c).inUse = some { rest := rest, eom := eom })
    (run : copyRun (s.txOf c) (s.ch c).outputStarted n rest =
      { tx := tx, started := started, count := n - k, rest := rest.drop k }) :
    let u : State :=
      { s with
        rx := s.rx.set c { s.rxOf c with inUse := some { rest := rest.drop k, eom := eom } }
        tx := s.tx.set c tx
        table := s.table.set c { s.ch c with
          outputStarted := started
          parse := if k < n then .copy (n - k) m else if 0 < m then .skip m else .header [] } }
    s.payloadStep c = if k < n ∧ k < rest.length then u.block c else s.finishStep u c := by
  have left : (0 < n - k && !(rest.drop k).isEmpty) = true ↔ k < n ∧ k < rest.length := by
    simp
  intro u
  simp only [payloadStep, used, parse, run, left]
  have result : (((s.setTx c tx).setRest c { rest := rest, eom := eom } (rest.drop k)).setParse c
      (.payload (n - k) m)).modCh c (fun ch => { ch with outputStarted := started }) = u := by
    simp [u, setTx, setRest, setParse, setRx, setCh, rxOf, ch, ParsePos.payload]
  rw [result]

end State
end Sys2Proof.Machine
end

section
/-! PROOFS. The obligations of the assembler and of the payload runs. -/

section
open Sys2Proof Sys2Proof.Machine

/-- Settles O36, by the length of the pending bytes and the ordinary slots in use. -/
theorem assemblerClosesSegments : Obligations.AssemblerClosesSegments := fun t unit =>
  ⟨t.hand_stream unit, t.flush_stream, t.hand_short unit, t.hand_full unit, t.flush_empty, t.flush_free, t.flush_marked⟩

/-- Settles O37: a COPY run hands the longest run of bytes that have room. -/
theorem payloadRunsTakeBytes : Obligations.PayloadRunsTakeBytes := by
  have taken (s : State) (c : ChannelNo) (served : s.servedFor .payloadRun = some c) :
      exec .takePayloadRun s = .next ((s.Stepping c).payloadStep c) :=
    congrArg _ (s.engineDo_eq .payloadRun State.payloadStep c served)
  refine ⟨fun s c n rest eom served parse used => ?_, fun s c n m rest eom served parse used => ?_⟩
  · rw [taken s c served, State.payloadStep_skip (s := s.Stepping c) (by rw [State.Stepping_ch, parse])
      (by rw [State.Stepping_rxOf, used]),
      State.finishStep_before (b := s) (by rw [State.Stepping_txOf]) (by rw [State.Stepping_ch]) (by rw [State.Stepping_ch])]
    simp only [State.Stepping_rx, State.Stepping_rxOf, State.Stepping_table, State.Stepping_ch]
  · obtain ⟨k, hn, hrest, run, each, stops⟩ := copyRun_eq (s.txOf c) (s.ch c).outputStarted n rest
    refine ⟨k, hn, hrest, ?_⟩
    intro handed started u
    have step := State.payloadStep_copy (s := s.Stepping c) (c := c) (k := k) (by rw [State.Stepping_ch, parse])
      (by rw [State.Stepping_rxOf, used]) (by rw [State.Stepping_txOf, State.Stepping_ch]; exact run)
    simp only [State.Stepping_rx, State.Stepping_rxOf, State.Stepping_tx, State.Stepping_table, State.Stepping_ch] at step
    rw [taken s c served, step]
    refine ⟨each, fun whole => ?_, fun more left => ⟨stops more left, ?_⟩⟩
    · rw [if_neg (by omega), State.finishStep_before (b := s) (by rw [State.Stepping_txOf]) (by rw [State.Stepping_ch])
        (by rw [State.Stepping_ch])]
      rfl
    · rw [if_pos ⟨more, left⟩]
      rfl

end
end

section
/-! PROOFS. Pushes, degrades and closes as records: what each leaves of the channel, its assembler and its counters. -/

namespace Sys2Proof.Machine

/-! ### The innermost scope -/

/-- The scopes with the innermost one changed. -/
def modLast (f : ScopeEntry → ScopeEntry) (scopes : List ScopeEntry) : List ScopeEntry :=
  match scopes.getLast? with
  | none => scopes
  | some e => scopes.dropLast ++ [f e]

theorem Channel.modInnermost_modLast (ch : Channel) (f : ScopeEntry → ScopeEntry) :
    ch.modInnermost f = { ch with resident := modLast f ch.resident } := by
  simp only [Channel.modInnermost, Channel.innermost, modLast]
  cases ch.resident.getLast? <;> rfl

section Last
variable {f g : ScopeEntry → ScopeEntry} {scopes : List ScopeEntry}

theorem modLast_none (none : scopes.getLast? = none) : modLast f scopes = scopes := by
  simp only [modLast, none]

theorem modLast_some {e : ScopeEntry} (last : scopes.getLast? = some e) : modLast f scopes = scopes.dropLast ++ [f e] := by
  simp only [modLast, last]

theorem modLast_getLast? : (modLast f scopes).getLast? = scopes.getLast?.map f := by
  cases last : scopes.getLast? with
  | none => rw [modLast_none last, last]; rfl
  | some e => rw [modLast_some last, List.getLast?_concat]; rfl

@[simp] theorem modLast_length : (modLast f scopes).length = scopes.length := by
  cases last : scopes.getLast? with
  | none => rw [modLast_none last]
  | some e =>
    have nonempty : scopes ≠ [] := fun nil => by rw [nil] at last; cases last
    rw [modLast_some last, List.length_append, List.length_dropLast]
    exact Nat.sub_add_cancel (List.length_pos_iff.2 nonempty)

theorem modLast_modLast : modLast g (modLast f scopes) = modLast (fun e => g (f e)) scopes := by
  cases last : scopes.getLast? with
  | none => rw [modLast_none last, modLast_none last, modLast_none last]
  | some e =>
    have last' : (modLast f scopes).getLast? = some (f e) := by rw [modLast_getLast?, last]; rfl
    rw [modLast_some last', modLast_some last, modLast_some last, List.dropLast_concat]

/-- Only what is done to the innermost scope counts. -/
theorem modLast_congr (same : ∀ e, scopes.getLast? = some e → f e = g e) : modLast f scopes = modLast g scopes := by
  cases last : scopes.getLast? with
  | none => rw [modLast_none last, modLast_none last]
  | some e => rw [modLast_some last, modLast_some last, same e last]

end Last

/-! ### Pushes and degrades (R48, R50, R74) -/

section Push
variable (s : State) (c : ChannelNo) (p : PendingPush)

theorem State.push_eq : s.push c p = s.finishStep (s.Pushed c p) c := by
  have depth (n : Nat) : (if p.entry.disposition == .filter then n + 1 else n) =
      n + if p.entry.disposition = .filter then 1 else 0 := by
    cases p.entry.disposition <;> rfl
  simp only [State.push, depth, s.emitHeader_eq c p.emit]
  simp [State.Pushed, State.setCh, State.ch]

theorem State.pushHasRoom_iff : s.pushHasRoom c p = true ↔ p.emit = none ∨ s.Room c 4 := by
  rw [State.pushHasRoom, Bool.or_eq_true, Option.isNone_iff_eq_none, s.hasRoom_iff]

theorem State.degrade_eq {h : Header} {n : Nat} (emit : p.emit = some h) (mode : p.entry.mode = .definite n)
    (k : FaultKind) : s.degrade c p k = s.finishStep (s.Degraded c p h.type n k) c := by
  have parse : ParsePos.payload n 0 = if n = 0 then .header [] else .copy n 0 := by
    cases n <;> rfl
  simp only [State.degrade, PendingPush.degradedHeader, emit, mode, ScopeMode.remaining, parse]
  congr 1
  cases degraded : (s.ch c).degradedThisMessage <;>
    simp [State.Degraded, State.recordDegrade, State.hand, State.accountChild, State.queueNotice, State.modMgmt,
      State.setTx, State.setCh, degraded, Channel.modInnermost_modLast, ScopeEntry.account] <;>
    simp [State.ch, State.txOf] at degraded ⊢ <;> simp [degraded, satAdd, count16Max, consumedMax]

end Push

/-! ### Closes (R56, R57) -/

section Close
variable (s : State) (c : ChannelNo) (e : ScopeEntry)

theorem ScopeEntry.total_eq : e.total = 4 + e.consumed + (if e.mode = .indefinite then 4 else 0) := by
  cases mode : e.mode <;> simp [ScopeEntry.total, mode, ScopeMode.isIndefinite]

/-- The parent's record after a child scope of the total is closed (R57 steps 1 and 4). -/
def ScopeEntry.chargedTotal (e p : ScopeEntry) : ScopeEntry :=
  { p with
    mode := if e.mode = .indefinite then (p.mode.deductTotal e.total).getD p.mode else p.mode
    consumed := min 16777215 (p.consumed + e.total) }

theorem Channel.accountClose_some {ch : Channel} (inTime : ¬ ch.ClosesLate e) :
    ch.accountClose e = some { ch with resident := modLast e.chargedTotal ch.resident } := by
  have notNone := mt (ch.accountClose_none_iff e).1 inTime
  simp only [Channel.accountClose, Channel.innermost, Channel.modInnermost_modLast] at notNone ⊢
  cases last : ch.resident.getLast? with
  | none => rw [modLast_none last]
  | some p =>
    simp only [last] at notNone ⊢
    cases mode : (if e.mode.isIndefinite then p.mode.deductTotal e.total else some p.mode) with
    | none => exact absurd (by rw [mode]) notNone
    | some m =>
      have charged : m = if e.mode = .indefinite then (p.mode.deductTotal e.total).getD p.mode else p.mode := by
        cases indefinite : e.mode <;> simp_all [ScopeMode.isIndefinite]
      refine congrArg (fun scopes => some { ch with resident := scopes }) (modLast_congr fun q here => ?_)
      obtain rfl : p = q := Option.some.inj (last.symm.trans here)
      rw [charged]
      rfl

theorem State.emitClose_eq : s.emitClose c e =
    { s with
      tx := if e.disposition = .discard then s.tx else s.tx.set c ((s.txOf c).hand [0, 0, 0, 0])
      table := s.table.set c { s.ch c with
        outputStarted := (s.ch c).outputStarted || e.disposition != .discard
        outputDepth := (s.ch c).outputDepth - (if e.disposition = .filter then 1 else 0) } } := by
  have self : s.table.set c (s.ch c) = s.table := Vector.set_getElem_self (xs := s.table) c.isLt
  have emits (hf : e.disposition ≠ .discard) : (e.disposition != .discard) = true := bne_iff_ne.2 hf
  cases disposition : e.disposition with
  | filter =>
    rw [disposition] at emits
    simp [State.emitClose, disposition, State.hand, State.setTx, State.setCh, State.ch, endRecord, State.txOf, emits]
  | verbatim =>
    rw [disposition] at emits
    simp [State.emitClose, disposition, State.hand, State.setTx, State.setCh, State.ch, endRecord, State.txOf, emits]
  | discard =>
    simp only [State.emitClose, disposition, bne_self_eq_false, Bool.or_false, if_true, reduceCtorEq, if_false, Nat.sub_zero,
      self]

theorem State.countClose_eq : s.countClose c e =
    { s with
      counters :=
        if e.mode = .indefinite ∧ e.looked = true then s.Counted (s.lookupFor c e.type).countIndex 0 e.total
        else s.counters } := by
  cases mode : e.mode <;> cases looked : e.looked <;>
    simp [State.countClose, mode, looked, ScopeMode.isIndefinite, State.count_eq]

theorem State.finishClose_late (late : (s.ch c).ClosesLate e) :
    s.finishClose c e = (s.fault c .malformed .lateOverrun true).endTurn := by
  simp only [State.finishClose, ((s.ch c).accountClose_none_iff e).2 late]
  rfl

theorem State.finishClose_inTime (inTime : ¬ (s.ch c).ClosesLate e) : s.finishClose c e = s.finishStep
    { s with
      tx := if e.disposition = .discard then s.tx else s.tx.set c ((s.txOf c).hand [0, 0, 0, 0])
      counters :=
        if e.mode = .indefinite ∧ e.looked = true then s.Counted (s.lookupFor c e.type).countIndex 0 e.total
        else s.counters
      table := s.table.set c { s.ch c with
        parse := .header []
        outputStarted := (s.ch c).outputStarted || e.disposition != .discard
        outputDepth := (s.ch c).outputDepth - (if e.disposition = .filter then 1 else 0)
        resident := modLast e.chargedTotal (s.ch c).resident } } c := by
  simp only [State.finishClose, Channel.accountClose_some e inTime, State.emitClose_eq, State.countClose_eq]
  simp [State.setCh, State.ch, State.txOf, State.lookupFor, State.Counted]

theorem ScopeEntry.closeEmits_iff : e.closeEmits = true ↔ e.disposition ≠ .discard := bne_iff_ne

/-- The state with the innermost scope popped. -/
def State.Popped (s : State) (c : ChannelNo) : State :=
  { s with table := s.table.set c { s.ch c with parse := .header [], resident := (s.ch c).resident.dropLast } }

@[simp] theorem State.Popped_ch : (s.Popped c).ch c =
    { s.ch c with parse := .header [], resident := (s.ch c).resident.dropLast } := by
  simp [State.Popped, State.ch]

theorem State.raiseFill_allowed (allowed : fillAllowed (s.ch c) s.spill.backing = true) : s.raiseFill c e =
    { s with
      turn := none
      spill := { s.spill with
        queue := s.spill.queue ++ [{ channel := c, kind := .fill, count := (s.ch c).config.windowSize / 2
                                     start := (s.ch c).spilled - (s.ch c).config.windowSize / 2 }] }
      table := s.table.set c { s.ch c with state := .fillWait, parse := .closePending e } } := by
  simp only [State.raiseFill, allowed, if_true]
  rfl

theorem fillAllowed_iff (ch : Channel) (b : Backing) :
    fillAllowed ch b = true ↔ ch.spillInvalid = false ∧ (b = .ready ∨ b = .suspect) := by
  cases b <;> simp [fillAllowed, Backing.usable]

/-- A close begun pops the innermost scope, and completes the close, fills its parent back, faults or waits. -/
theorem State.closeInnermost_closesTo {undo : State} (last : (s.ch c).resident.getLast? = some e) :
    ClosesTo (undo.closeInnermost s c) (undo.block c) (s.Popped c) c e := by
  have room : (s.Popped c).Room c 4 ↔ s.Room c 4 := by
    rw [State.Room, State.Room, State.Popped_ch]
    rfl
  have step : undo.closeInnermost s c =
      if ((s.Popped c).ch c).resident.isEmpty && 0 < ((s.Popped c).ch c).spilled then (s.Popped c).raiseFill c e
      else if e.closeEmits && !s.hasRoom c 4 then undo.block c
      else (s.Popped c).finishClose c e := by
    simp only [State.closeInnermost, Channel.innermost, last]
    rfl
  rw [step]
  refine ⟨fun empty spilled => ?_, fun more => ?_⟩
  · rw [if_pos (by rw [Bool.and_eq_true, List.isEmpty_iff, decide_eq_true_eq]; exact ⟨empty, spilled⟩)]
    refine ⟨fun valid usable => ?_, fun refused => ?_⟩
    · rw [State.raiseFill_allowed _ _ _ ((fillAllowed_iff _ _).2 ⟨valid, usable⟩)]
    · rw [State.raiseFill, if_neg fun allowed => ?_]
      · rfl
      · obtain ⟨valid, usable⟩ := (fillAllowed_iff _ _).1 allowed
        rcases refused with invalid | ⟨notReady, notSuspect⟩
        · exact Bool.false_ne_true (valid.symm.trans invalid)
        · exact usable.elim notReady notSuspect
  · rw [if_neg fun test => ?_]
    · rw [room]
      refine ⟨fun free => if_neg fun test => ?_, fun emits full => if_pos ?_⟩
      · rw [Bool.and_eq_true, e.closeEmits_iff, Bool.not_eq_true', ← Bool.not_eq_true, s.hasRoom_iff] at test
        exact free.elim test.1 test.2
      · rw [Bool.and_eq_true, e.closeEmits_iff, Bool.not_eq_true', ← Bool.not_eq_true, s.hasRoom_iff]
        exact ⟨emits, full⟩
    · rw [Bool.and_eq_true, List.isEmpty_iff, decide_eq_true_eq] at test
      exact more.elim (fun some => some test.1) fun none => absurd test.2 (by rw [none]; exact Nat.lt_irrefl 0)

end Close

theorem State.Stepping_waits (s : State) (c : ChannelNo) : (s.Stepping c).block c = s.StepWaits c := by
  simp only [State.block, State.modCh_eq, State.setCh, State.Stepping_table, State.Stepping_ch]
  rfl

theorem State.owesClose_of_servedFor {s : State} {c : ChannelNo} (served : s.servedFor .beginClose = some c) :
    (s.ch c).OwesClose := by
  have step := ((s.servedFor_iff _ c).1 served).2
  rw [State.stepFor] at step
  split at step
  · by_contra notOwed
    have owed : (s.ch c).owedClose = false := Bool.eq_false_iff.2 (mt (s.ch c).owedClose_iff.1 notOwed)
    simp only [engineStep, owed, Bool.false_eq_true, if_false] at step
    repeat' split at step
    all_goals cases step
  · cases step

end Sys2Proof.Machine
end

section
/-! PROOFS. The obligations of pending pushes and of closes. -/

section
open Sys2Proof Sys2Proof.Machine

/-- Settles O34, by the late-overrun test. -/
theorem closeIsCompleted : Obligations.CloseIsCompleted := by
  intro s c e total
  refine ⟨s.finishClose_late c e, fun inTime => ?_⟩
  rw [State.finishClose_inTime s c e inTime]
  simp only [total, ← e.total_eq, Channel.modInnermost_modLast]
  rfl

/-- Settles O33, by the room for the header. -/
theorem pendingPushIsResolved : Obligations.PendingPushIsResolved := by
  have room (s : State) (c : ChannelNo) : (s.Stepping c).Room c 4 ↔ s.Room c 4 := by
    rw [State.Room, State.Room, State.Stepping_txOf, State.Stepping_ch]
  have before (s t : State) (c : ChannelNo) : (s.Stepping c).finishStep t c = s.finishStep t c :=
    State.finishStep_before (by rw [State.Stepping_txOf]) (by rw [State.Stepping_ch]) (by rw [State.Stepping_ch])
  refine ⟨fun s c p served push => ?_, fun s c p h n served push emit mode => ?_⟩
  · have step : exec .carryOutPendingPush s =
        .next (if (s.Stepping c).pushHasRoom c p then (s.Stepping c).push c p else (s.Stepping c).block c) := by
      refine (congrArg _ (s.engineDo_eq .carryOutPush State.pushStep c served)).trans ?_
      simp only [State.pushStep, State.Stepping_ch, push]
    rw [step]
    refine ⟨fun free => ?_, fun emits full => ?_⟩
    · rw [if_pos (((s.Stepping c).pushHasRoom_iff c p).2 (by rwa [room])), State.push_eq, before]
    · rw [if_neg fun free => (((s.Stepping c).pushHasRoom_iff c p).1 free).elim emits (mt (room s c).1 full),
        State.Stepping_waits]
  · have step : exec .degradePendingPush s =
        .next (if (s.Stepping c).hasRoom c 4 then (s.Stepping c).degrade c p .noBacking else (s.Stepping c).block c) := by
      refine (congrArg _ (s.engineDo_eq .degradePush State.degradeStep c served)).trans ?_
      simp only [State.degradeStep, State.Stepping_ch, push]
    rw [step, ← room]
    refine ⟨fun free => ?_, fun full => ?_⟩
    · rw [if_pos (((s.Stepping c).hasRoom_iff c 4).2 free), State.degrade_eq _ c p emit mode, before]
    · rw [if_neg (mt ((s.Stepping c).hasRoom_iff c 4).1 full), State.Stepping_waits]

end
end

section
/-! PROOFS. The header step: its tests in order, and the handling that the record gets (R41). -/

namespace Sys2Proof.Machine

theorem Header.ofList_length {bs : List Byte} {h : Header} (spells : Header.ofList bs = some h) : bs.length = 4 := by
  unfold Header.ofList at spells
  split at spells
  · rfl
  · cases spells

section Collect
variable {s : State} {c : ChannelNo} {got taken rest : List Byte} {eom : Bool}

/-- The segment in use with other bytes left, at another position of the header. -/
def State.HeaderAt (s : State) (c : ChannelNo) (rest : List Byte) (eom : Bool) (got : List Byte) : State :=
  { s with
    rx := s.rx.set c { s.rxOf c with inUse := some { rest := rest, eom := eom } }
    table := s.table.set c { s.ch c with parse := .header got } }

variable (parse : (s.ch c).parse = .header got)
include parse

theorem State.headerStep_collect (used : (s.rxOf c).inUse = some { rest := taken, eom := eom })
    (short : got.length + taken.length ≤ 3) :
    s.headerStep c = s.finishStep (s.HeaderAt c [] eom (got ++ taken)) c := by
  have whole : taken.take (3 - got.length) = taken := List.take_of_length_le (by omega)
  have none : taken.drop (3 - got.length) = [] := List.drop_eq_nil_of_le (by omega)
  simp only [State.headerStep, used, parse, whole, none]
  rfl

theorem State.headerStep_complete {b : Byte} {h : Header}
    (used : (s.rxOf c).inUse = some { rest := taken ++ b :: rest, eom := eom })
    (spells : Header.ofList (got ++ taken ++ [b]) = some h) : s.headerStep c =
      (s.HeaderAt c (b :: rest) eom (got ++ taken)).takeHeader (s.HeaderAt c rest eom []) c h := by
  have length : got.length + taken.length = 3 := by
    have four := Header.ofList_length spells
    simp only [List.length_append, List.length_singleton] at four
    omega
  have first : (taken ++ b :: rest).take (3 - got.length) = taken := List.take_left' (by omega)
  have left : (taken ++ b :: rest).drop (3 - got.length) = b :: rest := List.drop_left' (by omega)
  simp only [State.headerStep, used, parse, first, left, spells]
  rfl

end Collect

/-- A fault does not depend on the bytes left of the segment in use, nor on the parse position (R23, R24). -/
theorem State.HeaderAt_fault (s : State) (c : ChannelNo) (rest : List Byte) (eom : Bool) (got : List Byte) (k : FaultKind)
    (r : Reason) : (s.HeaderAt c rest eom got).fault c k r true = s.fault c k r true := by
  simp only [State.fault, State.unwind_eq]
  simp [State.HeaderAt, State.queueNotice, State.modMgmt, State.setCh, State.ch, State.rxOf, State.txOf, Channel.depth,
    Channel.recordFault, Channel.unwound]
  exact ⟨rfl, rfl⟩

section Due
variable {s : State} {c : ChannelNo} {got taken : List Byte} {b : Byte} {rest : List Byte} {eom : Bool} {h : Header}

/-- The state that the step not taken starts from: three header bytes are collected. -/
def State.HeaderKept (s : State) (c : ChannelNo) (three : List Byte) (b : Byte) (rest : List Byte) (eom : Bool) : State :=
  (s.Stepping c).HeaderAt c (b :: rest) eom three

theorem State.HeaderKept_block (three : List Byte) :
    (s.HeaderKept c three b rest eom).block c = s.HeaderWaits c three b rest eom := by
  simp [State.HeaderKept, State.HeaderAt, State.HeaderWaits, State.block, State.setCh, State.ch, State.endTurn,
    State.rxOf]

theorem State.HeaderTaken_eq : (s.Stepping c).HeaderAt c rest eom [] = s.HeaderTaken c rest eom := by
  simp only [State.HeaderAt, State.HeaderTaken, State.Stepping_rx, State.Stepping_rxOf, State.Stepping_table,
    State.Stepping_ch]

theorem State.HeaderDue.exec_eq (due : s.HeaderDue c got taken b rest eom h) : exec .completeHeader s =
    .next ((s.HeaderKept c (got ++ taken) b rest eom).takeHeader (s.HeaderTaken c rest eom) c h) := by
  obtain ⟨served, parse, used, spells⟩ := due
  refine (congrArg _ (s.engineDo_eq .completeHeader State.headerStep c served)).trans ?_
  rw [State.headerStep_complete (s := s.Stepping c) (by rw [State.Stepping_ch, parse]) (by rw [State.Stepping_rxOf, used])
    spells, State.HeaderTaken_eq]
  rfl

theorem State.HeaderTaken_fault (k : FaultKind) (r : Reason) :
    (s.HeaderTaken c rest eom).engineFault c k r = ((s.Stepping c).fault c k r true).endTurn := by
  rw [State.engineFault, ← State.HeaderTaken_eq, State.HeaderAt_fault]

@[simp] theorem State.HeaderTaken_ch : (s.HeaderTaken c rest eom).ch c = { s.ch c with parse := .header [] } := by
  simp [State.HeaderTaken, State.ch]

@[simp] theorem State.HeaderTaken_txOf : (s.HeaderTaken c rest eom).txOf c = s.txOf c := s.Stepping_txOf c c

end Due

/-! ### The tests (R41 steps 1 to 3) -/

section Tests
variable {undo t : State} {c : ChannelNo} {h : Header}

theorem State.takeHeader_fault {r : Reason} (fails : headerFault h = some r) :
    undo.takeHeader t c h = t.engineFault c .malformed r := by
  simp only [State.takeHeader, fails]

variable (passes : headerFault h = none)
include passes

theorem State.takeHeader_end (isEnd : h.isEnd = true) : undo.takeHeader t c h = undo.takeEnd t c := by
  simp only [State.takeHeader, passes, isEnd, if_true]

theorem State.takeHeader_record {u : State} (notEnd : h.isEnd = false) (fits : t.deductParent c h = some u) :
    undo.takeHeader t c h = undo.dispose u c h := by
  simp only [State.takeHeader, passes, notEnd, fits, Bool.false_eq_true, if_false]

theorem State.takeHeader_overrun {e : ScopeEntry} (notEnd : h.isEnd = false) (last : (t.ch c).resident.getLast? = some e)
    (overruns : e.mode.deductChild h = none) : undo.takeHeader t c h = t.engineFault c .malformed .overrun := by
  simp only [State.takeHeader, passes, notEnd, Bool.false_eq_true, if_false, State.deductParent, Channel.innermost, last,
    overruns]

end Tests

theorem State.takeEnd_stray {undo t : State} {c : ChannelNo}
    (stray : ∀ e, (t.ch c).resident.getLast? = some e → e.mode ≠ .indefinite) :
    undo.takeEnd t c = t.engineFault c .malformed .strayEnd := by
  simp only [State.takeEnd, Channel.innermost]
  cases last : (t.ch c).resident.getLast? with
  | none => rfl
  | some e =>
    cases mode : e.mode with
    | definite n => simp only [mode, ScopeMode.isIndefinite, Bool.false_eq_true, if_false]
    | indefinite => exact absurd mode (stray e last)

theorem State.takeEnd_close {undo t : State} {c : ChannelNo} {e : ScopeEntry}
    (last : (t.ch c).resident.getLast? = some e) (mode : e.mode = .indefinite) :
    undo.takeEnd t c = undo.closeInnermost t c := by
  simp only [State.takeEnd, Channel.innermost, last, mode, ScopeMode.isIndefinite, if_true]

/-! ### The record's handling (R41 step 4) -/

section Admitted
variable {s : State} {c : ChannelNo} {rest : List Byte} {eom : Bool} {h : Header}

/-- The state with the header taken and the innermost scope charged for it. -/
def State.HeaderAdmitted (s : State) (c : ChannelNo) (rest : List Byte) (eom : Bool) (h : Header) : State :=
  { s.HeaderTaken c rest eom with
    table := s.table.set c { s.ch c with parse := .header [], resident := (s.ch c).deducted h } }

theorem Channel.deducted_eq (ch : Channel) : ch.deducted h =
    modLast (fun e => { e with mode := (e.mode.deductChild h).getD e.mode }) ch.resident := by
  rw [Channel.deducted, Channel.modInnermost_modLast]

@[simp] theorem Channel.deducted_length (ch : Channel) : (ch.deducted h).length = ch.resident.length := by
  rw [Channel.deducted_eq, modLast_length]

@[simp] theorem State.HeaderAdmitted_ch : (s.HeaderAdmitted c rest eom h).ch c =
    { s.ch c with parse := .header [], resident := (s.ch c).deducted h } := by
  simp [State.HeaderAdmitted, State.ch]

@[simp] theorem State.HeaderAdmitted_txOf : (s.HeaderAdmitted c rest eom h).txOf c = s.txOf c := s.Stepping_txOf c c

@[simp] theorem State.HeaderAdmitted_spill : (s.HeaderAdmitted c rest eom h).spill = s.spill := s.Stepping_spill c

@[simp] theorem State.HeaderAdmitted_lookupFor (type : RecType) :
    (s.HeaderAdmitted c rest eom h).lookupFor c type = s.lookupFor c type := by
  have policy : (s.HeaderAdmitted c rest eom h).policy = s.policy := s.Stepping_policy c
  simp only [State.lookupFor, State.HeaderAdmitted_ch, policy]

theorem State.HeaderAdmitted_room (n : Nat) : (s.HeaderAdmitted c rest eom h).Room c n ↔ s.Room c n := by
  rw [State.Room, State.Room, State.HeaderAdmitted_ch, State.HeaderAdmitted_txOf]

theorem State.HeaderAdmitted_finish (t : State) : (s.HeaderAdmitted c rest eom h).finishStep t c = s.finishStep t c :=
  State.finishStep_before State.HeaderAdmitted_txOf (by rw [State.HeaderAdmitted_ch]) (by simp)

theorem State.deductParent_admitted
    (fits : ∀ e, (s.ch c).resident.getLast? = some e → e.mode.deductChild h ≠ none) :
    (s.HeaderTaken c rest eom).deductParent c h = some (s.HeaderAdmitted c rest eom h) := by
  simp only [State.deductParent, State.HeaderTaken_ch, Channel.innermost, State.HeaderAdmitted, Channel.deducted_eq]
  cases last : (s.ch c).resident.getLast? with
  | none =>
    rw [modLast_none last]
    rfl
  | some e =>
    obtain ⟨m, deducted⟩ := Option.ne_none_iff_exists'.1 (fits e last)
    have charged : modLast (fun q => { q with mode := m }) (s.ch c).resident =
        modLast (fun q => { q with mode := (q.mode.deductChild h).getD q.mode }) (s.ch c).resident := by
      refine modLast_congr fun q here => ?_
      obtain rfl : e = q := Option.some.inj (last.symm.trans here)
      rw [deducted]
      rfl
    simp only [deducted, State.modCh_eq, State.setCh, State.HeaderTaken_ch, Channel.modInnermost_modLast, charged]
    simp [State.HeaderTaken]

theorem State.dispose_handled {undo : State} {x : Handling} {looked : Bool} {index : Option (Fin 256)}
    (handled : s.Handled c h x looked index) : undo.dispose (s.HeaderAdmitted c rest eom h) c h =
      undo.handle (s.HeaderAdmitted c rest eom h) c h x looked index := by
  obtain ⟨byPolicy, byScope⟩ := handled
  have last : ((s.HeaderAdmitted c rest eom h).ch c).innermost = (s.ch c).resident.getLast?.map fun e =>
      { e with mode := (e.mode.deductChild h).getD e.mode } := by
    rw [Channel.innermost, State.HeaderAdmitted_ch, Channel.deducted_eq, modLast_getLast?]
  have judged (policy : (s.ch c).resident = [] ∨ ∃ e, (s.ch c).resident.getLast? = some e ∧ e.disposition = .filter) :
      undo.judge (s.HeaderAdmitted c rest eom h) c h =
        undo.handle (s.HeaderAdmitted c rest eom h) c h x looked index := by
    obtain ⟨rfl, rfl, rfl⟩ := byPolicy _ rfl policy
    simp only [State.judge, State.HeaderAdmitted_lookupFor]
  rw [State.dispose, last]
  cases innermost : (s.ch c).resident.getLast? with
  | none => exact judged (.inl (List.getLast?_eq_none_iff.1 innermost))
  | some e =>
    obtain ⟨verbatim, discard⟩ := byScope e innermost
    cases disposition : e.disposition with
    | filter =>
      simp only [Option.map_some, disposition]
      exact judged (.inr ⟨e, innermost, disposition⟩)
    | verbatim =>
      obtain ⟨rfl, rfl, rfl⟩ := verbatim disposition
      simp only [Option.map_some, disposition]
    | discard =>
      obtain ⟨rfl, rfl, rfl⟩ := discard disposition
      simp only [Option.map_some, disposition]

/-- The header step, for a header that is due, admitted and handled. -/
theorem State.HeaderDue.handled {got taken : List Byte} {b : Byte} {x : Handling} {looked : Bool}
    {index : Option (Fin 256)} (due : s.HeaderDue c got taken b rest eom h) (admits : s.Admits c h)
    (handled : s.Handled c h x looked index) : exec .completeHeader s =
      .next ((s.HeaderKept c (got ++ taken) b rest eom).handle (s.HeaderAdmitted c rest eom h) c h x looked index) := by
  obtain ⟨passes, notEnd, fits⟩ := admits
  rw [due.exec_eq, State.takeHeader_record passes notEnd (State.deductParent_admitted fits),
    State.dispose_handled handled]

end Admitted

end Sys2Proof.Machine
end

section
/-! PROOFS. The obligations of the header's faults and of the scopes' closes. -/

section
open Sys2Proof Sys2Proof.Machine

/-- Settles O29, by the first test that fails. -/
theorem headerFaultsInOrder : Obligations.HeaderFaultsInOrder := by
  refine ⟨fun s c got taken b rest eom h due => ?_, fun s c got taken eom served parse used short => ?_⟩
  · intro faulted
    rw [due.exec_eq]
    refine ⟨fun r fails => ?_, fun passes isEnd stray => ?_, fun passes notEnd => ?_⟩
    · rw [State.takeHeader_fault fails, State.HeaderTaken_fault]
    · rw [State.takeHeader_end passes isEnd, State.takeEnd_stray (by rwa [State.HeaderTaken_ch]), State.HeaderTaken_fault]
    · rintro ⟨e, last, overrun⟩
      rw [State.takeHeader_overrun passes notEnd (e := e) (by rwa [State.HeaderTaken_ch]) overrun, State.HeaderTaken_fault]
  · refine (congrArg _ (s.engineDo_eq .completeHeader State.headerStep c served)).trans ?_
    rw [State.headerStep_collect (s := s.Stepping c) (by rw [State.Stepping_ch, parse])
      (by rw [State.Stepping_rxOf, used]) short,
      State.finishStep_before (b := s) (by rw [State.Stepping_txOf]) (by rw [State.Stepping_ch]) (by rw [State.Stepping_ch])]
    simp only [State.HeaderAt, State.Stepping_rx, State.Stepping_rxOf, State.Stepping_table, State.Stepping_ch]

/-- Settles O35: an End record, an owed close and a completed fill each reach the same close. -/
theorem scopesAreClosed : Obligations.ScopesAreClosed := by
  refine ⟨fun s c got taken b rest eom h e due passes isEnd last mode => ⟨_, due.exec_eq, ?_⟩,
    fun s c e served last => ⟨_, congrArg Host.Outcome.next (s.engineDo_eq .beginClose State.closeStep c served), ?_⟩,
    fun s c e served parse => ?_⟩
  · have last' : ((s.HeaderTaken c rest eom).ch c).resident.getLast? = some e := by rwa [State.HeaderTaken_ch]
    have popped : (s.HeaderTaken c rest eom).Popped c =
        { s.HeaderTaken c rest eom with
          table := s.table.set c { s.ch c with parse := .header [], resident := (s.ch c).resident.dropLast } } := by
      rw [State.Popped, State.HeaderTaken_ch]
      simp [State.HeaderTaken]
    rw [State.takeHeader_end passes isEnd, State.takeEnd_close last' mode, ← State.HeaderKept_block, ← popped]
    exact State.closeInnermost_closesTo _ c e last'
  · have last' : ((s.Stepping c).ch c).resident.getLast? = some e := by rwa [State.Stepping_ch]
    obtain ⟨parse, -, -⟩ := State.owesClose_of_servedFor served
    have popped : (s.Stepping c).Popped c =
        { s.Stepping c with table := s.table.set c { s.ch c with resident := (s.ch c).resident.dropLast } } := by
      rw [State.Popped, State.Stepping_ch, State.Stepping_table, ← parse]
    rw [← State.Stepping_waits, ← popped]
    exact State.closeInnermost_closesTo _ c e last'
  · have room : (s.Stepping c).Room c 4 ↔ s.Room c 4 := by
      rw [State.Room, State.Room, State.Stepping_txOf, State.Stepping_ch]
    have waits : (((s.ch c).accountClose e).isSome && e.closeEmits && !(s.Stepping c).hasRoom c 4) = true ↔
        ¬ (s.ch c).ClosesLate e ∧ e.disposition ≠ .discard ∧ ¬ s.Room c 4 := by
      rw [Bool.and_eq_true, Bool.and_eq_true, Bool.not_eq_true', ← Bool.not_eq_true, State.hasRoom_iff, room,
        e.closeEmits_iff, Option.isSome_iff_ne_none, ne_eq, Channel.accountClose_none_iff, and_assoc]
    have step : exec .completeClose s =
        .next (if ((s.ch c).accountClose e).isSome && e.closeEmits && !(s.Stepping c).hasRoom c 4 then
          (s.Stepping c).block c else (s.Stepping c).finishClose c e) := by
      refine (congrArg _ (s.engineDo_eq .completeClose State.resumeClose c served)).trans ?_
      simp only [State.resumeClose, State.Stepping_ch, parse]
    rw [step]
    refine ⟨fun completes => ?_, fun inTime emits full => ?_⟩
    · rw [if_neg fun test => ?_]
      obtain ⟨inTime, emits, full⟩ := waits.1 test
      exact completes.elim inTime fun free => free.elim emits full
    · rw [if_pos (waits.2 ⟨inTime, emits, full⟩), State.Stepping_waits]

end
end

section
/-! PROOFS. Records carried in bulk, and records that open a scope. -/

namespace Sys2Proof.Machine

/-! ### Which records are carried in bulk -/

section Bounded
variable {h : Header} {emit : Option Header} {copy skip : Nat}

/-- An indefinite container opens a scope under every action. -/
theorem actionHandling_bulk {type : RecType} {a : Action} (passes : headerFault h = none)
    (bulk : actionHandling h type a = .bulk emit copy skip) : h.isIndefinite = false := by
  by_contra notBounded
  have indefinite := Bool.not_eq_false _ ▸ notBounded
  have form := Header.container_of_indefinite passes indefinite
  have length : h.length ≠ 0 := by rw [h.isIndefinite_iff.1 indefinite]; decide
  have scope : ∃ d emit, actionHandling h type a = .scope d emit := by
    cases a with
    | pass => exact ⟨_, _, passHandling_indefinite type passes indefinite⟩
    | descend => exact ⟨_, _, actionHandling_descend_container type form length⟩
    | drop => exact ⟨_, _, discardHandling_indefinite indefinite⟩
    | truncate limit =>
      exact ⟨_, _, (actionHandling_truncate_container type limit form).trans
        (passHandling_indefinite type passes indefinite)⟩
  obtain ⟨d, emit, scope⟩ := scope
  cases scope.symm.trans bulk

theorem State.Handled.bounded {s : State} {c : ChannelNo} {looked : Bool} {index : Option (Fin 256)}
    (passes : headerFault h = none) (handled : s.Handled c h (.bulk emit copy skip) looked index) :
    h.isIndefinite = false := by
  obtain ⟨byPolicy, byScope⟩ := handled
  have judged (policy : (s.ch c).resident = [] ∨ ∃ e, (s.ch c).resident.getLast? = some e ∧ e.disposition = .filter) :=
    actionHandling_bulk passes (byPolicy _ rfl policy).1.symm
  cases last : (s.ch c).resident.getLast? with
  | none => exact judged (.inl (List.getLast?_eq_none_iff.1 last))
  | some e =>
    obtain ⟨verbatim, discard⟩ := byScope e last
    cases disposition : e.disposition with
    | filter => exact judged (.inr ⟨e, last, disposition⟩)
    | verbatim => exact actionHandling_bulk (type := h.type) (a := .pass) passes (verbatim disposition).1.symm
    | discard => exact actionHandling_bulk (type := h.type) (a := .drop) passes (discard disposition).1.symm

end Bounded

/-! ### A record carried in bulk -/

theorem State.Counted_congr {a b : State} {index : Option (Fin 256)} {records bytes : Nat}
    (counters : a.counters = b.counters) : a.Counted index records bytes = b.Counted index records bytes := by
  simp only [State.Counted, counters]

theorem State.Emitted_congr {a b : State} {c : ChannelNo} {emit : Option Header} (tx : a.tx = b.tx) :
    a.Emitted c emit = b.Emitted c emit := by
  simp only [State.Emitted, State.txOf, tx]

section Bulk
variable {undo : State} {s : State} {c : ChannelNo} {rest : List Byte} {eom : Bool} {h : Header}
  {emit : Option Header} {copy skip : Nat} {looked : Bool} {index : Option (Fin 256)}

theorem Channel.charged_eq (ch : Channel) (n : Nat) : ch.charged h n =
    modLast (fun e => { e with mode := (e.mode.deductChild h).getD e.mode, consumed := min 16777215 (e.consumed + n) })
      ch.resident := by
  rw [Channel.charged, Channel.modInnermost_modLast]

theorem State.handle_bulk_waits (emits : emit ≠ none) (full : ¬ s.Room c 4) :
    undo.handle (s.HeaderAdmitted c rest eom h) c h (.bulk emit copy skip) looked index = undo.block c := by
  refine if_pos ?_
  rw [Bool.and_eq_true, Option.isSome_iff_ne_none, Bool.not_eq_true', ← Bool.not_eq_true, State.hasRoom_iff,
    State.HeaderAdmitted_room]
  exact ⟨emits, full⟩

theorem State.handle_bulk (bounded : h.isIndefinite = false) (free : emit = none ∨ s.Room c 4) :
    undo.handle (s.HeaderAdmitted c rest eom h) c h (.bulk emit copy skip) looked index = s.finishStep
      { s.HeaderTaken c rest eom with
        counters := s.Counted index 1 (4 + h.length.toNat)
        tx := s.Emitted c emit
        table := s.table.set c { s.ch c with
          resident := (s.ch c).charged h (4 + h.length.toNat)
          parse := if 0 < copy then .copy copy skip else if 0 < skip then .skip skip else .header []
          outputStarted := (s.ch c).outputStarted || emit.isSome } } c := by
  have size : h.countedSize = 4 + h.length.toNat := if_neg (by rw [bounded]; exact Bool.false_ne_true)
  have room : (emit.isSome && !(s.HeaderAdmitted c rest eom h).hasRoom c 4) ≠ true := by
    rw [ne_eq, Bool.and_eq_true, Option.isSome_iff_ne_none, Bool.not_eq_true', ← Bool.not_eq_true, State.hasRoom_iff,
      State.HeaderAdmitted_room]
    exact fun ⟨emits, full⟩ => free.elim emits full
  have counted : (s.HeaderAdmitted c rest eom h).Counted index 1 (4 + h.length.toNat) =
      s.Counted index 1 (4 + h.length.toNat) := State.Counted_congr (s.Stepping_counters c)
  have emitted (v : Vector CounterPair 256) :
      { s.HeaderAdmitted c rest eom h with counters := v }.Emitted c emit = s.Emitted c emit :=
    State.Emitted_congr (s.Stepping_tx c)
  have charged (ch : Channel) : modLast (fun e => e.account h.size) (ch.deducted h) =
      ch.charged h (4 + h.length.toNat) := by
    rw [Channel.deducted_eq, modLast_modLast, Channel.charged_eq]
    rfl
  simp only [State.handle]
  rw [if_neg room, State.HeaderAdmitted_finish, size, State.count_eq, counted, State.emitHeader_eq, emitted]
  simp only [State.accountChild, State.modCh_eq, State.setCh, State.ch, Vector.set_set,
    Channel.modInnermost_modLast]
  simp [State.HeaderAdmitted, charged, ParsePos.payload, State.ch]

end Bulk

/-! ### A record that opens a scope (R72, R73) -/

section Scope
variable {undo : State} {s : State} {c : ChannelNo} {rest : List Byte} {eom : Bool} {h : Header} {p : PendingPush}
  {index : Option (Fin 256)}

theorem pushCheck_congr {a b : Channel} {k : Backing} (config : a.config = b.config)
    (resident : a.resident.length = b.resident.length) (spilled : a.spilled = b.spilled)
    (invalid : a.spillInvalid = b.spillInvalid) : pushCheck a k = pushCheck b k := by
  simp only [pushCheck, Channel.depth, config, resident, spilled, invalid]
  rfl

theorem pushCheck_depth {ch : Channel} {k : Backing} (deep : ch.config.maxDepth < ch.resident.length + ch.spilled + 1) :
    pushCheck ch k = some .depth := if_pos deep

section Shallow
variable {ch : Channel} {k : Backing} (shallow : ch.resident.length + ch.spilled + 1 ≤ ch.config.maxDepth)
include shallow

theorem pushCheck_shallow : pushCheck ch k = if ch.config.windowSize = 0 then some .noBacking
    else if ch.config.windowSize ≤ ch.resident.length ∧ (ch.spillInvalid = true ∨ k.usable = false) then some .noBacking
    else none := by
  refine (if_neg (Nat.not_lt.2 shallow)).trans ?_
  exact if_congr beq_iff_eq rfl (if_congr (by simp) rfl rfl)

theorem pushCheck_noWindow (none : ch.config.windowSize = 0) : pushCheck ch k = some .noBacking := by
  rw [pushCheck_shallow shallow, if_pos none]

theorem pushCheck_noBacking (window : 0 < ch.config.windowSize) (full : ch.config.windowSize ≤ ch.resident.length)
    (unusable : ch.spillInvalid = true ∨ k.usable = false) : pushCheck ch k = some .noBacking := by
  rw [pushCheck_shallow shallow, if_neg (Nat.pos_iff_ne_zero.1 window), if_pos ⟨full, unusable⟩]

theorem pushCheck_passes (window : 0 < ch.config.windowSize)
    (passes : ch.resident.length < ch.config.windowSize ∨ (ch.spillInvalid = false ∧ k.usable = true)) :
    pushCheck ch k = none := by
  rw [pushCheck_shallow shallow, if_neg (Nat.pos_iff_ne_zero.1 window), if_neg]
  rintro ⟨full, unusable⟩
  rcases passes with room | ⟨valid, usable⟩
  · exact Nat.not_le.2 room full
  · rw [valid, usable] at unusable
    simp at unusable

end Shallow

theorem Backing.usable_iff (k : Backing) : k.usable = true ↔ k = .ready ∨ k = .suspect := by
  cases k <;> simp [Backing.usable]

theorem ScopeEntry.degradable_iff (e : ScopeEntry) :
    e.degradable = true ↔ e.disposition = .filter ∧ e.mode ≠ .indefinite := by
  cases mode : e.mode <;> simp [ScopeEntry.degradable, mode, ScopeMode.isIndefinite]

/-- The push that a record asks for. -/
def Header.push (h : Header) (d : Disposition) (emit : Option Header) (looked : Bool) : PendingPush :=
  { entry := { type := h.type, disposition := d, mode := h.scopeMode, consumed := 0, looked := looked }
    emit := emit
    refused := false }

/-- The state with the record admitted and its hit counted. -/
def State.ScopeCounted (s : State) (c : ChannelNo) (rest : List Byte) (eom : Bool) (h : Header)
    (index : Option (Fin 256)) : State :=
  { s.HeaderAdmitted c rest eom h with counters := s.Counted index 1 h.countedSize }

theorem State.HeaderAdmitted_count :
    (s.HeaderAdmitted c rest eom h).count index 1 h.countedSize = s.ScopeCounted c rest eom h index := by
  rw [State.count_eq, State.Counted_congr (a := s.HeaderAdmitted c rest eom h) (s.Stepping_counters c)]
  rfl

@[simp] theorem State.ScopeCounted_ch : (s.ScopeCounted c rest eom h index).ch c =
    { s.ch c with parse := .header [], resident := (s.ch c).deducted h } :=
  State.HeaderAdmitted_ch (rest := rest) (eom := eom)

theorem State.ScopeCounted_finish (t : State) : (s.ScopeCounted c rest eom h index).finishStep t c = s.finishStep t c :=
  State.finishStep_before (s.Stepping_txOf c c) (by rw [State.ScopeCounted_ch]) (by simp)

theorem State.raiseSpill_eq (t : State) : t.raiseSpill c p =
    { t with
      turn := none
      spill := { t.spill with
        queue := t.spill.queue ++ [{ channel := c, kind := .spill, count := (t.ch c).config.windowSize / 2
                                     start := (t.ch c).spilled }] }
      table := t.table.set c { t.ch c with state := .spillWait, pendingPush := some p } } := rfl

theorem State.ScopeCounted_raiseSpill : (s.ScopeCounted c rest eom h index).raiseSpill c p =
    { s.ScopeCounted c rest eom h index with
      turn := none
      spill := { s.spill with
        queue := s.spill.queue ++ [{ channel := c, kind := .spill, count := (s.ch c).config.windowSize / 2
                                     start := (s.ch c).spilled }] }
      table := (s.ScopeCounted c rest eom h index).table.set c { (s.ScopeCounted c rest eom h index).ch c with
        state := .spillWait, pendingPush := some p } } := by
  have spill : (s.ScopeCounted c rest eom h index).spill = s.spill := s.Stepping_spill c
  have config : ((s.ScopeCounted c rest eom h index).ch c).config = (s.ch c).config := by rw [State.ScopeCounted_ch]
  have spilled : ((s.ScopeCounted c rest eom h index).ch c).spilled = (s.ch c).spilled := by rw [State.ScopeCounted_ch]
  rw [State.raiseSpill_eq, spill, config, spilled]

theorem State.HeaderAdmitted_pushCheck (k : Backing) :
    pushCheck ((s.HeaderAdmitted c rest eom h).ch c) k = pushCheck (s.ch c) k := by
  rw [State.HeaderAdmitted_ch]
  exact pushCheck_congr rfl ((s.ch c).deducted_length) rfl rfl

theorem State.HeaderAdmitted_windowFull : ((s.HeaderAdmitted c rest eom h).ch c).windowFull = true ↔
    (s.ch c).config.windowSize ≤ (s.ch c).resident.length := by
  rw [State.HeaderAdmitted_ch, Channel.windowFull, decide_eq_true_eq, Channel.deducted_length]

theorem State.HeaderAdmitted_pushHasRoom : (s.HeaderAdmitted c rest eom h).pushHasRoom c p = true ↔
    p.emit = none ∨ s.Room c 4 := by
  rw [State.pushHasRoom_iff, State.HeaderAdmitted_room]

section Opens
variable {size : Nat} {backing : Backing} (fitted : s.spill.backing = backing)
include fitted

section Passes
variable (check : pushCheck (s.ch c) backing = none)
include check

theorem State.openScope_spills (full : (s.ch c).config.windowSize ≤ (s.ch c).resident.length) :
    undo.openScope (s.HeaderAdmitted c rest eom h) c p index h.countedSize =
      (s.ScopeCounted c rest eom h index).raiseSpill c p := by
  simp only [State.openScope, State.HeaderAdmitted_spill, fitted, State.HeaderAdmitted_pushCheck, check,
    State.HeaderAdmitted_count]
  exact if_pos (State.HeaderAdmitted_windowFull.2 full)

variable (room : (s.ch c).resident.length < (s.ch c).config.windowSize)
include room

theorem State.openScope_pushes (free : p.emit = none ∨ s.Room c 4) :
    undo.openScope (s.HeaderAdmitted c rest eom h) c p index h.countedSize =
      s.finishStep ((s.ScopeCounted c rest eom h index).Pushed c p) c := by
  simp only [State.openScope, State.HeaderAdmitted_spill, fitted, State.HeaderAdmitted_pushCheck, check,
    State.HeaderAdmitted_count]
  rw [if_neg fun full => Nat.not_le.2 room (State.HeaderAdmitted_windowFull.1 full),
    if_pos (State.HeaderAdmitted_pushHasRoom.2 free), State.push_eq, State.ScopeCounted_finish]

theorem State.openScope_pushWaits (emits : p.emit ≠ none) (full : ¬ s.Room c 4) :
    undo.openScope (s.HeaderAdmitted c rest eom h) c p index size = undo.block c := by
  simp only [State.openScope, State.HeaderAdmitted_spill, fitted, State.HeaderAdmitted_pushCheck, check]
  rw [if_neg fun full => Nat.not_le.2 room (State.HeaderAdmitted_windowFull.1 full),
    if_neg fun free => (State.HeaderAdmitted_pushHasRoom.1 free).elim emits full]

end Passes

section Fails
variable {k : FaultKind} (check : pushCheck (s.ch c) backing = some k)
include check

theorem State.openScope_faults (kept : p.entry.degradable = false) :
    undo.openScope (s.HeaderAdmitted c rest eom h) c p index h.countedSize =
      (s.ScopeCounted c rest eom h index).engineFault c k .none := by
  simp only [State.openScope, State.HeaderAdmitted_spill, fitted, State.HeaderAdmitted_pushCheck, check,
    State.HeaderAdmitted_count, kept, Bool.not_false, if_true]

variable (degradable : p.entry.degradable = true)
include degradable

theorem State.openScope_degrades (free : s.Room c 4) :
    undo.openScope (s.HeaderAdmitted c rest eom h) c p index h.countedSize =
      (s.ScopeCounted c rest eom h index).degrade c p k := by
  simp only [State.openScope, State.HeaderAdmitted_spill, fitted, State.HeaderAdmitted_pushCheck, check,
    State.HeaderAdmitted_count, degradable, Bool.not_true, Bool.false_eq_true, if_false]
  exact if_pos ((State.hasRoom_iff _ c 4).2 ((State.HeaderAdmitted_room 4).2 free))

theorem State.openScope_degradeWaits (full : ¬ s.Room c 4) :
    undo.openScope (s.HeaderAdmitted c rest eom h) c p index size = undo.block c := by
  simp only [State.openScope, State.HeaderAdmitted_spill, fitted, State.HeaderAdmitted_pushCheck, check, degradable,
    Bool.not_true, Bool.false_eq_true, if_false]
  exact if_neg fun free => full ((State.HeaderAdmitted_room 4).1 ((State.hasRoom_iff _ c 4).1 free))

end Fails
end Opens
end Scope

end Sys2Proof.Machine
end

section
/-! PROOFS. The obligations of the records that are admitted. -/

section
open Sys2Proof Sys2Proof.Machine

/-- Settles O31, by the room for the header. -/
theorem recordsAreCarriedInBulk : Obligations.RecordsAreCarriedInBulk := by
  intro s c got taken b rest eom h emit copy skip looked index due admits handled
  rw [due.handled admits handled]
  refine ⟨fun free => ?_, fun emits full => ?_⟩
  · rw [State.handle_bulk (handled.bounded admits.1) free]
  · rw [State.handle_bulk_waits emits full, State.HeaderKept_block]

/-- Settles O32, by the checks before a push, then by what the first of them to fail leaves. -/
theorem recordsOpenScopes : Obligations.RecordsOpenScopes := by
  refine ⟨fun ch k => ?_, fun s c got taken b rest eom h d emit looked index due admits handled => ?_⟩
  · intro depth
    have unusable : k.usable = false ↔ k ≠ .ready ∧ k ≠ .suspect := by
      rw [← Bool.not_eq_true, k.usable_iff, not_or]
    refine ⟨pushCheck_depth, pushCheck_noWindow, fun shallow window full refused => ?_, fun shallow window passes => ?_⟩
    · exact pushCheck_noBacking shallow window full.ge (by rwa [unusable])
    · exact pushCheck_passes shallow window (by rwa [k.usable_iff])
  · intro n definite p u check w degradable
    have step : exec .completeHeader s = .next ((s.HeaderKept c (got ++ taken) b rest eom).openScope
        (s.HeaderAdmitted c rest eom h) c (h.push d emit looked) index h.countedSize) := due.handled admits handled
    have size : definite = !h.isIndefinite := rfl
    have pending : h.push d emit looked = p := by
      cases indefinite : h.isIndefinite <;>
        simp [Header.push, p, n, size, indefinite, Header.scopeMode]
    have counted : s.ScopeCounted c rest eom h index = u := by
      have bytes : h.countedSize = if definite then 4 + n else 0 := by
        cases indefinite : h.isIndefinite <;> simp [Header.countedSize, size, indefinite, Header.size, n]
      rw [State.ScopeCounted, bytes]
      rfl
    have degrades : p.entry.degradable = true ↔ degradable := by
      rw [ScopeEntry.degradable_iff]
      cases bounded : definite <;> simp [p, degradable, bounded]
    have keeps : p.entry.degradable = false ↔ ¬ degradable := by rw [← degrades, Bool.not_eq_true]
    rw [step, pending]
    refine ⟨fun none room free => ?_, fun none full => ?_, fun k some degradable room e emits => ?_,
      fun k some kept => ?_, fun waits full => ?_⟩
    · rw [State.openScope_pushes rfl none room free, counted]
    · rw [State.openScope_spills rfl none full, State.ScopeCounted_raiseSpill, counted]
    · have mode : p.entry.mode = .definite n := if_pos degradable.2
      rw [State.openScope_degrades rfl some (degrades.2 degradable) room, State.degrade_eq _ c p emits mode,
        State.ScopeCounted_finish, counted]
    · rw [State.openScope_faults rfl some (keeps.2 kept), counted]
      rfl
    · rw [← State.HeaderKept_block]
      rcases waits with ⟨none, room, emits⟩ | ⟨some, degradable⟩
      · rw [State.openScope_pushWaits rfl none room emits full]
      · obtain ⟨k, some⟩ := Option.ne_none_iff_exists'.1 some
        rw [State.openScope_degradeWaits rfl some (degrades.2 degradable) full]

end
end

section
/-! PROOFS. The Spill Port: what SDI carries in a read, and which job the port takes. -/

namespace Sys2Proof.Machine

/-! ### The serial wires (R87, R88) -/

/-- Bit `k` of a select period is sampled at its second level. -/
theorem risingSamples_getElem? (sck : Bool) (bits : List Bool) (tail : List WireLevels) (sdi : List Bool) {k : Nat}
    (within : k < bits.length) (driven : 2 * bits.length ≤ sdi.length) :
    (risingSamples sck (bits.flatMap bitLevels ++ tail) sdi)[k]? = sdi[2 * k + 1]? := by
  induction bits generalizing sck sdi k with
  | nil => exact absurd within (Nat.not_lt_zero k)
  | cons b bits ih =>
    obtain ⟨low, high, later, rfl⟩ : ∃ low high later, sdi = low :: high :: later := by
      match sdi, driven with
      | low :: high :: later, _ => exact ⟨low, high, later, rfl⟩
    have step : risingSamples sck ((b :: bits).flatMap bitLevels ++ tail) (low :: high :: later) =
        high :: risingSamples true (bits.flatMap bitLevels ++ tail) later := by
      simp [risingSamples, bitLevels]
    rw [step]
    cases k with
    | zero => rfl
    | succ k =>
      simp only [List.length_cons] at within driven
      rw [List.getElem?_cons_succ, ih true later (by omega) (by omega)]
      rfl

theorem byteBits_length (b : Byte) : (byteBits b).length = 8 := rfl

theorem byteBits_getElem? (b : Byte) {i : Nat} (within : i < 8) : (byteBits b)[i]? = some (b.getLsbD (7 - i)) := by
  have all : ∀ i : Fin 8, (byteBits b)[i.val]? = some (b.getLsbD (7 - i.val)) := by
    intro i
    fin_cases i <;> rfl
  exact all ⟨i, within⟩

/-- The number that bits spell, most significant first, has the last of them as its bit 0. -/
theorem bits_testBit (bits : List Bool) (k : Nat) :
    (bits.foldl (fun n (b : Bool) => 2 * n + b.toNat) 0).testBit k = bits.reverse[k]?.getD false := by
  induction bits using List.reverseRecOn generalizing k with
  | nil => simp
  | append_singleton bits b ih =>
    rw [List.foldl_concat, List.reverse_concat]
    cases k with
    | zero => cases b <;> simp
    | succ k =>
      rw [List.getElem?_cons_succ, ← ih k, Nat.testBit_succ]
      congr 1
      cases b <;> simp [Nat.mul_add_div]

theorem bitsByte_ofFn (f : Fin 8 → Bool) (j : Fin 8) : (bitsByte (List.ofFn f)).getLsbD (7 - j.val) = f j := by
  have below : 7 - j.val < 8 := by omega
  have back : 8 - 1 - (7 - j.val) = j.val := by omega
  rw [bitsByte, BitVec.getLsbD_ofNat, decide_eq_true below, Bool.true_and, bits_testBit,
    List.getElem?_reverse (by rwa [List.length_ofFn]), List.length_ofFn, back, List.getElem?_ofFn, dif_pos j.isLt]
  rfl

theorem bitsBytes_getElem (n : Nat) (bits : List Bool) {i : Nat} (within : i < (bitsBytes n bits).length) :
    (bitsBytes n bits)[i] = bitsByte ((bits.drop (8 * i)).take 8) := by
  induction n generalizing bits i with
  | zero => exact absurd within (Nat.not_lt_zero i)
  | succ n ih =>
    cases i with
    | zero => rfl
    | succ i =>
      have later : i < (bitsBytes n (bits.drop 8)).length := Nat.lt_of_succ_lt_succ within
      refine (ih (bits.drop 8) later).trans ?_
      rw [List.drop_drop]
      congr 3
      omega

theorem SelectPeriod.levels_length (p : SelectPeriod) : p.levels.length = 16 * p.sent.length + 2 := by
  have bits : (p.sent.flatMap byteBits).length = 8 * p.sent.length := by
    simp [List.length_flatMap, byteBits_length, Nat.mul_comm]
  simp [SelectPeriod.levels, List.length_flatMap, bitLevels, bits]
  omega

theorem SelectPeriod.sent_length_ge (p : SelectPeriod) : 3 + p.dataCount ≤ p.sent.length := by
  simp only [SelectPeriod.sent, wordBytes, List.cons_append, List.nil_append, List.length_cons, List.length_append,
    List.length_replicate]
  omega

/-- The port receives the bytes that SDI carries. -/
theorem SelectPeriod.hears_received (p : SelectPeriod) (sdi : List Bool) (driven : sdi.length = p.levels.length) :
    p.Hears sdi (p.received sdi) := by
  refine ⟨driven, p.received_length sdi, fun i j => ?_⟩
  have bits : (p.sent.flatMap byteBits).length = 8 * p.sent.length := by
    simp [List.length_flatMap, byteBits_length, Nat.mul_comm]
  have within : i.val < p.dataCount := i.isLt.trans_eq (p.received_length sdi)
  have enough := p.sent_length_ge
  have length := p.levels_length
  have sampled (j : Fin 8) : (((risingSamples false p.levels sdi).drop 24).drop (8 * i.val))[j.val]? =
      sdi[2 * (24 + 8 * i.val + j.val) + 1]? := by
    rw [List.getElem?_drop, List.getElem?_drop, ← Nat.add_assoc]
    exact risingSamples_getElem? _ _ _ sdi (by omega) (by omega)
  have level (j : Fin 8) : 2 * (24 + 8 * i.val + j.val) + 1 < sdi.length := by omega
  have byte : (((risingSamples false p.levels sdi).drop 24).drop (8 * i.val)).take 8 =
      List.ofFn fun j : Fin 8 => sdi[2 * (24 + 8 * i.val + j.val) + 1]'(level j) := by
    refine List.ext_getElem? fun k => ?_
    rw [List.getElem?_take, List.getElem?_ofFn]
    by_cases inByte : k < 8
    · rw [if_pos inByte, dif_pos inByte, sampled ⟨k, inByte⟩]
      exact List.getElem?_eq_getElem (level ⟨k, inByte⟩)
    · rw [if_neg inByte, dif_neg inByte]
  rw [List.getElem?_eq_getElem (level j), Fin.getElem_fin]
  refine congrArg some (Eq.symm ?_)
  calc (p.received sdi)[i.val].getLsbD (7 - j.val)
      = (bitsByte ((((risingSamples false p.levels sdi).drop 24).drop (8 * i.val)).take 8)).getLsbD (7 - j.val) :=
        congrArg (fun b : Byte => b.getLsbD (7 - j.val)) (bitsBytes_getElem _ _ i.isLt)
    _ = sdi[2 * (24 + 8 * i.val + j.val) + 1]'(level j) := by rw [byte, bitsByte_ofFn]

/-- SDI carries one list of data bytes in a read. -/
theorem SelectPeriod.Hears.received_eq {p : SelectPeriod} {sdi : List Bool} {read : List Byte} (hears : p.Hears sdi read) :
    p.received sdi = read := by
  obtain ⟨driven, length, carried⟩ := hears
  obtain ⟨-, -, received⟩ := p.hears_received sdi driven
  refine List.ext_getElem ((p.received_length sdi).trans length.symm) fun i h h' => ?_
  refine BitVec.eq_of_getLsbD_eq fun k below => ?_
  have bit := (carried ⟨i, h'⟩ ⟨7 - k, by omega⟩).symm.trans (received ⟨i, h⟩ ⟨7 - k, by omega⟩)
  have back : 7 - (7 - k) = k := by omega
  simp only [back, Fin.getElem_fin, Option.some.injEq] at bit
  exact bit.symm

/-! ### Taking a job (R90, R91) -/

section Queue
variable {p : SpillPort} {before after : List Job} {j : Job}

theorem SpillPort.nextJob_fill (queue : p.queue = before ++ j :: after) (fill : j.kind = .fill)
    (spills : ∀ x ∈ before, x.kind = .spill) : p.nextJob = some j := by
  have none : before.find? (fun j => j.kind == .fill) = none :=
    List.find?_eq_none.2 fun x mem => by rw [spills x mem]; decide
  have found : p.queue.find? (fun j => j.kind == .fill) = some j := by
    rw [queue, List.find?_append, none, List.find?_cons_of_pos (by rw [fill]; rfl)]
    rfl
  simp only [SpillPort.nextJob, found]

theorem erase_fill (fill : j.kind = .fill) (spills : ∀ x ∈ before, x.kind = .spill) :
    (before ++ j :: after).erase j = before ++ after := by
  have absent : j ∉ before := fun mem => by cases fill.symm.trans (spills j mem)
  rw [List.erase_append_right _ absent, List.erase_cons_head]

theorem SpillPort.nextJob_spill (queue : p.queue = j :: after) (spills : ∀ x ∈ j :: after, x.kind = .spill) :
    p.nextJob = some j := by
  have none : p.queue.find? (fun j => j.kind == .fill) = none :=
    List.find?_eq_none.2 fun x mem => by rw [spills x (queue ▸ mem)]; decide
  have first : p.queue.head? = some j := by rw [queue, List.head?_cons]
  simp only [SpillPort.nextJob, none, first]

end Queue

section Take
variable {s : State} (free : s.spill.inFlight = none)
include free

theorem exec_takeJob_absent (absent : s.spill.backing = .absent) : exec .takeJob s = .next s := by
  simp only [exec, execTakeJob, free, absent, beq_self_eq_true, if_true]

variable (fitted : s.spill.backing ≠ .absent)
include fitted

theorem exec_takeJob_probe (probe : s.spill.pendingProbe = true) : exec .takeJob s = .next s.takeProbe := by
  simp only [exec, execTakeJob, free, beq_iff_eq, fitted, probe, if_false, if_true]

theorem exec_takeJob_queued {j : Job} (probe : s.spill.pendingProbe = false) (next : s.spill.nextJob = some j) :
    exec .takeJob s = .next (s.takeQueued j) := by
  simp only [exec, execTakeJob, free, beq_iff_eq, fitted, probe, next, Bool.false_eq_true, if_false]

end Take
end Sys2Proof.Machine
end

section
/-! PROOFS. The obligation of the jobs that the port takes. -/

section
open Sys2Proof Sys2Proof.Machine

/-- Settles O38: the wires by their definitions, the jobs by the order of the arbiter. -/
theorem jobsAreTakenInOrder : Obligations.JobsAreTakenInOrder := by
  refine ⟨fun n => ⟨rfl, rfl⟩, fun command address data n => ?_, fun p => rfl,
    fun b => ⟨rfl, fun i within => byteBits_getElem? b within⟩, fun p sdi => p.hears_received sdi,
    fun s free => ⟨by rw [SpillPort.levels, free]; rfl, exec_takeJob_absent free⟩, rfl, fun s free fitted => ?_⟩
  · intro high low
    have address : wordBytes address = [high, low] := (wordBytes_eq_numBytes address).trans (numBytes_two address.toNat)
    refine ⟨?_, ?_⟩
    · simp [SelectPeriod.sent, address]
    · simp [SelectPeriod.sent, address]
  · intro address
    refine ⟨fun probe => exec_takeJob_probe free fitted probe, fun before j after probe queue fill spills => ?_,
      fun j after probe queue spills => ?_⟩
    · rw [exec_takeJob_queued free fitted probe (SpillPort.nextJob_fill queue fill spills), State.takeQueued,
        State.modSpill, queue, erase_fill fill spills]
      simp only [State.periodOf, fill]
      rfl
    · have spill : j.kind = .spill := spills j List.mem_cons_self
      rw [exec_takeJob_queued free fitted probe (SpillPort.nextJob_spill queue spills), State.takeQueued,
        State.modSpill, queue, List.erase_cons_head]
      simp only [State.periodOf, spill]
      rfl

end
end

section
/-! PROOFS. What the completions of spills, fills and probes leave. -/

namespace Sys2Proof.Machine

/-! ### The exit from DRAIN (R25, R151) -/

section Drain
variable (s : State) (c : ChannelNo)

theorem State.answerReset_answers {tag : Option (List Byte)} (waits : s.mgmt.unit = .executing (.channelReset tag c)) :
    s.answerReset c = s.Responded (responseBytes 0xE05 tag .ok (s.ch c).StateBytes) := by
  simp only [State.answerReset, waits, beq_self_eq_true, if_true, Channel.stateLeaf_eq]
  rfl

theorem State.answerReset_none (idle : ∀ tag, s.mgmt.unit ≠ .executing (.channelReset tag c)) : s.answerReset c = s := by
  simp only [State.answerReset]
  split
  · next tag d unit =>
    rw [if_neg]
    intro same
    obtain rfl : d = c := beq_iff_eq.1 same
    exact idle tag unit
  all_goals rfl

theorem State.leaveDrain_leaves : LeavesDrain (s.leaveDrain c) s c := by
  have exit : (s.ch c).drainExit.toState = match (s.ch c).drainExit with
      | .await => .await
      | .disabled => .disabled := by
    cases (s.ch c).drainExit <;> rfl
  have left : s.modCh c (fun ch => { ch with state := ch.drainExit.toState }) =
      { s with table := s.table.set c { s.ch c with
        state := match (s.ch c).drainExit with
          | .await => .await
          | .disabled => .disabled } } := by
    rw [State.modCh_eq, exit]
    rfl
  rw [State.leaveDrain, left]
  exact ⟨fun tag waits => State.answerReset_answers _ c waits, fun idle => State.answerReset_none _ c idle⟩

end Drain

/-! ### Completions of data jobs (R92 to R94) -/

section Data
variable {s : State} {j : Job} {p : SelectPeriod} (flies : s.spill.inFlight = some (.data j p))
include flies

theorem exec_spillCompletion (spill : j.kind = .spill) : exec .spillCompletion s = .next (s.freeWires.spillDone j) := by
  obtain ⟨c, kind, count, start⟩ := j
  obtain rfl : kind = .spill := spill
  simp only [exec, execSpillCompletion, flies]

theorem exec_fillCompletion (fill : j.kind = .fill) {sdi : List Bool} (driven : sdi.length = p.levels.length) :
    exec (.fillCompletion sdi) s = .next (s.freeWires.fillDone j (p.received sdi)) := by
  obtain ⟨c, kind, count, start⟩ := j
  obtain rfl : kind = .fill := fill
  simp only [exec, execFillCompletion, flies, driven, beq_self_eq_true, if_true]

end Data

theorem State.spillDone_waiting {s : State} {j : Job} (waits : (s.ch j.channel).state = .spillWait) : s.spillDone j =
    { s with table := s.table.set j.channel { s.ch j.channel with
        resident := (s.ch j.channel).resident.drop j.count
        spilled := (s.ch j.channel).spilled + j.count
        state := .inMessage } } := by
  simp only [State.spillDone, waits]
  rfl

theorem State.spillDone_drain {s : State} {j : Job} (drain : (s.ch j.channel).state = .drain) :
    s.spillDone j = s.leaveDrain j.channel := by
  simp only [State.spillDone, drain]

theorem State.fillDone_drain {s : State} {j : Job} {read : List Byte} (drain : (s.ch j.channel).state = .drain) :
    s.fillDone j read = s.leaveDrain j.channel := by
  simp only [State.fillDone, drain]

theorem State.fillDone_good {s : State} {j : Job} {read : List Byte} {es : List ScopeEntry}
    (waits : (s.ch j.channel).state = .fillWait) (good : verifyAll j.channel j.count j.start read = some es) :
    s.fillDone j read = (s.modCh j.channel fun ch => ch.fillTaken j.count es).goodFill := by
  simp only [State.fillDone, waits, good]

theorem State.fillDone_bad {s : State} {j : Job} {read : List Byte} (waits : (s.ch j.channel).state = .fillWait)
    (bad : verifyAll j.channel j.count j.start read = none) :
    s.fillDone j read = (s.fault j.channel .fillCheck .none true).badFill := by
  simp only [State.fillDone, waits, bad]

theorem State.goodFill_suspect {s : State} (suspect : s.spill.backing = .suspect) : s.goodFill =
    { s with spill := { s.spill with failures := 0, backing := .ready } }.queueNotice (.backingState .ready 0) := by
  simp [State.goodFill, State.noticeBacking, State.modSpill, suspect]

theorem State.goodFill_other {s : State} (other : s.spill.backing ≠ .suspect) : s.goodFill =
    { s with spill := { s.spill with failures := 0, backing := s.spill.backing } } := by
  simp [State.goodFill, State.modSpill, other]

/-! ### LOST (R83, R98) -/

theorem State.enterLost_eq (s : State) :
    let t := State.queueNotice
      { s with
        spill := { s.spill with backing := .lost }
        table := Vector.ofFn fun c =>
          if c ≠ s.straps.mgmtSel ∧ 0 < (s.ch c).spilled then { s.ch c with spillInvalid := true } else s.ch c }
      (.backingState .lost s.spill.failures)
    s.enterLost = s.spill.queue.foldl State.refuseJob { t with spill := { t.spill with queue := [] } } := by
  have marks (c : ChannelNo) : (s.isData c && decide (0 < (s.ch c).spilled)) = true ↔
      c ≠ s.straps.mgmtSel ∧ 0 < (s.ch c).spilled := by
    rw [Bool.and_eq_true, s.isData_iff, decide_eq_true_eq]
  have marked : (s.modSpill fun p => { p with backing := .lost }).markSpillInvalid =
      { s with
        spill := { s.spill with backing := .lost }
        table := Vector.ofFn fun c =>
          if c ≠ s.straps.mgmtSel ∧ 0 < (s.ch c).spilled then { s.ch c with spillInvalid := true } else s.ch c } := by
    simp only [← marks]
    rfl
  intro t
  rw [State.enterLost, marked]
  rfl

section Refuse
variable {s : State} {j : Job}

theorem State.refuseJob_spill_eq {p : PendingPush} (waits : (s.ch j.channel).state = .spillWait)
    (push : (s.ch j.channel).pendingPush = some p) : s.refuseJob j =
      if p.entry.degradable then
        s.modCh j.channel fun ch => { ch with state := .inMessage, pendingPush := some { p with refused := true } }
      else s.fault j.channel .noBacking .none true := by
  simp only [State.refuseJob, waits, push]

theorem State.refuseJob_fill (waits : (s.ch j.channel).state = .fillWait) :
    s.refuseJob j = s.fault j.channel .noBacking .none true := by
  simp only [State.refuseJob, waits]

end Refuse

/-! ### Probes (R96, R163, R170) -/

theorem State.openPart_eq (s : State) (tag : Option (List Byte)) : s.openPart tag = s.Opened tag := by
  have opens (c : ChannelNo) : (s.isData c && (s.ch c).config.enabled && (s.ch c).state == .held) =
      decide (c ≠ s.straps.mgmtSel ∧ (s.ch c).config.enabled = true ∧ (s.ch c).state = .held) := by
    rw [Bool.eq_iff_iff, Bool.and_eq_true, Bool.and_eq_true, s.isData_iff, beq_iff_eq, decide_eq_true_eq, and_assoc]
  have type : responseType Cmd.provisionClose = 0xE0D := rfl
  simp only [State.openPart, opens, State.respond, type, State.modMgmt, State.mapCh, State.mapRx, State.Opened]
  simp only [State.ch, State.rxOf]

section Begin
variable {s : State}

theorem State.returnBegin_held (held : ¬ s.LaneCanBegin) : s.returnBegin = s := by
  rw [State.returnBegin, if_neg (mt s.laneCanBegin_iff.1 held)]

/-- With no response to send and no notice waiting, nothing is begun. -/
theorem State.returnBegin_empty (busy : s.mgmt.unit ≠ .responding) (none : s.mgmt.notices = []) : s.returnBegin = s := by
  by_cases lane : s.LaneCanBegin
  · rw [State.returnBegin_eq lane, State.beginReturn]
    split
    · next unit _ => exact absurd unit busy
    · simp only [none]
  · exact State.returnBegin_held lane

theorem State.answerProbe_handedOn : ProbeHandedOn s.answerProbe s := by
  have begun : ∃ v : State, (∀ n later, s.LaneCanBegin → s.mgmt.notices = n :: later → v = s.NoticeBegun n later) ∧
      (¬ s.LaneCanBegin ∨ s.mgmt.notices = [] → v = s) ∧ (s.mgmt.unit ≠ .responding → s.returnBegin = v) := by
    by_cases lane : s.LaneCanBegin
    · cases notices : s.mgmt.notices with
      | nil => exact ⟨s, nofun, fun _ => rfl, fun busy => State.returnBegin_empty busy notices⟩
      | cons n later =>
        refine ⟨s.NoticeBegun n later, fun m ms _ same => ?_, fun none => ?_, fun busy => ?_⟩
        · cases same
          rfl
        · exact none.elim (fun held => absurd lane held) nofun
        · rw [State.returnBegin_eq lane, State.beginReturn_notice (.inl busy) notices]
    · exact ⟨s, fun n later can _ => absurd can lane, fun _ => rfl, fun _ => State.returnBegin_held lane⟩
  obtain ⟨v, notice, none, same⟩ := begun
  refine ⟨⟨v, notice, none, fun tag unit => ?_, fun tag unit => ?_⟩, fun other => ?_⟩
  · simp only [State.answerProbe, unit, same (by rw [unit]; nofun)]
    rfl
  · simp only [State.answerProbe, unit, same (by rw [unit]; nofun), State.openPart_eq]
  · rw [State.answerProbe]
    split
    · next tag unit => exact absurd unit (other tag).1
    · next tag unit => exact absurd unit (other tag).2
    all_goals rfl

end Begin
end Sys2Proof.Machine
end

section
/-! PROOFS. The obligations of the Spill Port's completions. -/

section
open Sys2Proof Sys2Proof.Machine

/-- Settles O39, by the state of the job's channel. -/
theorem spillMovesTheOutermostScopes : Obligations.SpillMovesTheOutermostScopes := by
  intro s j p flies u
  have freed : s.freeWires = u := rfl
  refine ⟨fun spill waits => ?_, fun spill drain => ⟨_, exec_spillCompletion flies spill, ?_⟩,
    fun sdi fill drain driven => ⟨_, exec_fillCompletion flies fill driven, ?_⟩⟩
  · rw [exec_spillCompletion flies spill, freed, State.spillDone_waiting (s := u) waits]
    rfl
  · rw [freed, State.spillDone_drain (s := u) drain]
    exact u.leaveDrain_leaves j.channel
  · rw [freed, State.fillDone_drain (s := u) drain]
    exact u.leaveDrain_leaves j.channel

/-- Settles O40: the bytes heard verify or not, and the backing's state. -/
theorem fillIsAllOrNothing : Obligations.FillIsAllOrNothing := by
  intro s j p sdi read flies fill waits hears u
  have freed : s.freeWires = u := rfl
  have step : exec (.fillCompletion sdi) s = .next (u.fillDone j read) := by
    rw [exec_fillCompletion flies fill hears.1, hears.received_eq, freed]
  rw [step]
  refine ⟨fun es good => ?_, fun bad => ?_⟩
  · intro v
    rw [State.fillDone_good (s := u) waits good]
    by_cases suspect : s.spill.backing = .suspect
    · rw [if_pos suspect]
      refine (congrArg _ (State.goodFill_suspect (s := u.modCh j.channel fun ch => ch.fillTaken j.count es) suspect)).trans
        ?_
      simp only [v, if_pos suspect]
      rfl
    · rw [if_neg suspect]
      refine (congrArg _ (State.goodFill_other (s := u.modCh j.channel fun ch => ch.fillTaken j.count es) suspect)).trans ?_
      simp only [v, if_neg suspect]
      rfl
  · intro f n v
    have backing : f.spill.backing = s.spill.backing := (congrArg SpillPort.backing (u.fault_spill _ _ _ _)).trans rfl
    have failures : f.spill.failures = s.spill.failures := (congrArg SpillPort.failures (u.fault_spill _ _ _ _)).trans rfl
    have counted : f.modSpill (fun p => { p with failures := min 2 (p.failures + 1) }) = v := by
      simp only [State.modSpill, failures]
      rfl
    rw [State.fillDone_bad (s := u) waits bad, State.badFill, counted, backing]
    refine ⟨fun ready => ?_, fun suspect => ?_, fun notReady notSuspect => ?_⟩
    · simp only [ready]
      rfl
    · simp only [suspect]
    · cases other : s.spill.backing with
      | ready => exact absurd other notReady
      | suspect => exact absurd other notSuspect
      | absent => rfl
      | untested => rfl
      | lost => rfl

/-- Settles O41: the entry into LOST by its order, a refusal by what its channel waits for. -/
theorem lostRefusesWaitingJobs : Obligations.LostRefusesWaitingJobs := by
  refine ⟨State.enterLost_eq, fun s j => ⟨fun p waits push => ⟨?_, fun kept => ?_⟩, State.refuseJob_fill⟩⟩
  · rintro ⟨n, filter, mode⟩
    rw [State.refuseJob_spill_eq waits push, if_pos ((ScopeEntry.degradable_iff _).2 ⟨filter, by rw [mode]; nofun⟩)]
    rfl
  · rw [State.refuseJob_spill_eq waits push, if_neg]
    intro degradable
    obtain ⟨filter, definite⟩ := (ScopeEntry.degradable_iff _).1 degradable
    exact kept.elim (fun other => other filter) definite

/-- Settles O42: the bytes heard agree with the pattern or not. -/
theorem probeDecidesTheBacking : Obligations.ProbeDecidesTheBacking := by
  intro s w r written heard read flies driven hears freed ready settled
  have received : r.received ((written ++ heard).drop w.levels.length) = read := by
    rw [List.drop_left' driven, hears.received_eq]
  have lengths : ((written ++ heard).length == w.levels.length + r.levels.length) = true := by
    rw [List.length_append, driven, hears.1, beq_self_eq_true]
  have done : s.probeDone w.dataOut read = settled.answerProbe := by
    refine congrArg State.answerProbe ?_
    by_cases same : read = w.dataOut
    · simp only [settled, same, beq_self_eq_true, if_true, State.probePassed, beq_iff_eq]
      split <;> rfl
    · simp only [settled, beq_eq_false_iff_ne.2 same, if_neg same, Bool.false_eq_true, if_false, State.probeFailed,
        beq_iff_eq]
      split <;> rfl
  refine ⟨_, ?_, settled.answerProbe_handedOn⟩
  simp only [exec, execProbeCompletion, flies, lengths, received, if_true, done]

end
end

section
/-! PROOFS. Scope entries in the memory: what is written verifies and is read back, and what differs does not verify. -/

namespace Sys2Proof.Machine

/-! ### The fields of an entry as bytes (R89) -/

theorem bytesNum_numBytes_two {v : Nat} (small : v < 65536) : bytesNum (numBytes 2 v) = v := by
  simp only [bytesNum, numBytes, List.foldl, BitVec.toNat_ofNat]
  omega

theorem bytesNum_numBytes_three {v : Nat} (small : v < 16777216) : bytesNum (numBytes 3 v) = v := by
  simp only [bytesNum, numBytes, List.foldl, BitVec.toNat_ofNat]
  omega

section Word
variable (x : BitVec 4) (t : BitVec 12)

theorem tagWord_low : ((x ++ t).extractLsb' 8 8).extractLsb' 0 4 ++ (x ++ t).extractLsb' 0 8 = t := by
  refine BitVec.eq_of_getLsbD_eq fun i hi => ?_
  simp only [BitVec.getLsbD_append, BitVec.getLsbD_extractLsb']
  by_cases low : i < 8
  · simp [low, hi]
  · simp [low, show i - 8 < 4 by omega, show 8 + (i - 8) = i by omega, hi, show i - 8 < 8 by omega]

theorem tagWord_high {i : Nat} (within : i < 4) : ((x ++ t).extractLsb' 8 8).getLsbD (4 + i) = x.getLsbD i := by
  simp only [BitVec.getLsbD_append, BitVec.getLsbD_extractLsb']
  simp [show ¬ 8 + (4 + i) < 12 by omega, show 8 + (4 + i) - 12 = i by omega, show 4 + i < 8 by omega]

end Word

theorem Disposition.ofCode_code (d : Disposition) : Disposition.ofCode d.code = some d := by
  cases d <;> rfl

theorem entryTag_bits : ∀ (d : BitVec 2) (indefinite looked : Bool),
    let x : BitVec 4 := d ++ BitVec.ofBool indefinite ++ BitVec.ofBool looked
    x.getLsbD 0 = looked ∧ x.getLsbD 1 = indefinite ∧ x.getLsbD 2 = d.getLsbD 0 ∧ x.getLsbD 3 = d.getLsbD 1 := by
  decide

/-- The first word of an entry holds its disposition, its mode, its flag L and its type. -/
theorem entryWord_fields (d : BitVec 2) (indefinite looked : Bool) (t : BitVec 12) :
    let w : BitVec 16 := d ++ BitVec.ofBool indefinite ++ BitVec.ofBool looked ++ t
    (w.extractLsb' 8 8).extractLsb' 6 2 = d ∧ (w.extractLsb' 8 8).getLsbD 5 = indefinite ∧
      (w.extractLsb' 8 8).getLsbD 4 = looked ∧ (w.extractLsb' 8 8).extractLsb' 0 4 ++ w.extractLsb' 0 8 = t := by
  intro w
  have high {i : Nat} (within : i < 4) : (w.extractLsb' 8 8).getLsbD (4 + i) =
      (d ++ BitVec.ofBool indefinite ++ BitVec.ofBool looked).getLsbD i :=
    tagWord_high (d ++ BitVec.ofBool indefinite ++ BitVec.ofBool looked) t within
  obtain ⟨bit0, bit1, bit2, bit3⟩ := entryTag_bits d indefinite looked
  have lower := high (i := 2) (by decide)
  have upper := high (i := 3) (by decide)
  refine ⟨BitVec.eq_of_getLsbD_eq fun i within => ?_, (high (i := 1) (by decide)).trans bit1,
    (high (i := 0) (by decide)).trans bit0, tagWord_low _ t⟩
  rw [BitVec.getLsbD_extractLsb', decide_eq_true within, Bool.true_and]
  interval_cases i
  · exact lower.trans bit2
  · exact upper.trans bit3

theorem ScopeEntry.verify_serialize {e : ScopeEntry} (legal : e.Legal) (c : ChannelNo) (slot : Nat) :
    ScopeEntry.verify c slot (e.serialize c slot) = some e := by
  obtain ⟨type, disposition, mode, consumed, looked⟩ := e
  obtain ⟨named, range, definite⟩ := legal
  simp only at named range definite
  obtain ⟨code, indefinite, flag, number⟩ := entryWord_fields disposition.code mode.isIndefinite looked type
  have count := bytesNum_numBytes_three (v := consumed) (by omega)
  have left : mode.remaining ≤ 65534 := by
    cases mode with
    | definite r => exact (definite r rfl).2
    | indefinite => exact Nat.zero_le _
  have length := bytesNum_numBytes_two (v := mode.remaining) (by omega)
  have notEnd : (type == 0) = false := beq_eq_false_iff_ne.2 named
  simp only [ScopeEntry.serialize, ScopeEntry.fieldBytes, wordBytes, numBytes, List.cons_append, List.nil_append,
    ScopeEntry.verify, beq_self_eq_true, if_true, ScopeEntry.ofFields, code, indefinite, flag, number,
    Disposition.ofCode_code, notEnd] at count length ⊢
  rw [count, length]
  cases mode with
  | definite r =>
    obtain ⟨rfl, small⟩ := definite r rfl
    simp [ScopeMode.isIndefinite, ScopeMode.remaining, Nat.not_lt.2 small]
  | indefinite => simp [ScopeMode.isIndefinite, ScopeMode.remaining]

theorem ScopeEntry.serialize_length (e : ScopeEntry) (c : ChannelNo) (slot : Nat) : (e.serialize c slot).length = 8 := by
  simp [ScopeEntry.serialize, ScopeEntry.fieldBytes, numBytes]

theorem serializeAll_length (c : ChannelNo) (start : Nat) (es : List ScopeEntry) :
    (serializeAll c start es).length = 8 * es.length := by
  induction es generalizing start with
  | nil => rfl
  | cons e es ih =>
    rw [serializeAll, List.length_append, e.serialize_length, ih, List.length_cons]
    omega

theorem verifyAll_serializeAll (c : ChannelNo) (start : Nat) {es : List ScopeEntry} (legal : ∀ e ∈ es, e.Legal) :
    verifyAll c es.length start (serializeAll c start es) = some es := by
  induction es generalizing start with
  | nil => rfl
  | cons e es ih =>
    obtain ⟨first, later⟩ := List.forall_mem_cons.1 legal
    have front : (serializeAll c start (e :: es)).take 8 = e.serialize c start := List.take_left' (e.serialize_length c start)
    have back : (serializeAll c start (e :: es)).drop 8 = serializeAll c (start + 1) es :=
      List.drop_left' (e.serialize_length c start)
    simp only [List.length_cons, verifyAll, front, back, ScopeEntry.verify_serialize first, ih (start + 1) later]

/-! ### Entries that do not verify (R93) -/

theorem ScopeEntry.verify_badCheck {c : ChannelNo} {slot : Nat} {seven : List Byte} {check : Byte}
    (length : seven.length = 7) (differs : check ≠ checkByte seven c slot) :
    ScopeEntry.verify c slot (seven ++ [check]) = none := by
  match seven, length with
  | [b0, b1, b2, b3, b4, b5, b6], _ =>
    simp only [List.cons_append, List.nil_append, ScopeEntry.verify, beq_iff_eq, if_neg differs]

/-- Whether the fields of an entry fail a test (R93). -/
def badFields (b0 b1 b2 b3 : Byte) : Prop :=
  b0.extractLsb' 6 2 = 3 ∨ (b0.getLsbD 5 = false ∧ b0.extractLsb' 6 2 ≠ 0) ∨ (b0.extractLsb' 0 4 = 0 ∧ b1 = 0) ∨
    65534 < bytesNum [b2, b3] ∨ (b0.getLsbD 5 = true ∧ bytesNum [b2, b3] ≠ 0)

theorem Disposition.code_of_ofCode {b : BitVec 2} {d : Disposition} (named : Disposition.ofCode b = some d) : d.code = b := by
  revert b d
  decide

theorem ScopeEntry.ofFields_bad {b0 b1 b2 b3 b4 b5 b6 : Byte} (bad : badFields b0 b1 b2 b3) :
    ScopeEntry.ofFields b0 b1 b2 b3 b4 b5 b6 = none := by
  simp only [ScopeEntry.ofFields]
  split
  · rfl
  · next d named =>
    refine if_pos ?_
    have code := Disposition.code_of_ofCode named
    rcases bad with three | ⟨definite, other⟩ | ⟨high, low⟩ | large | ⟨indefinite, some⟩
    · rw [three] at named
      cases named
    · have notFilter : (d != .filter) = true := bne_iff_ne.2 fun filter => other (by rw [← code, filter]; rfl)
      rw [definite, notFilter]
      simp
    · have type : (b0.extractLsb' 0 4 ++ b1 == 0) = true := by
        rw [high, low]
        rfl
      rw [type]
      simp
    · simp [large]
    · simp [indefinite, some]

theorem ScopeEntry.verify_badFields {c : ChannelNo} {slot : Nat} {b0 b1 b2 b3 b4 b5 b6 : Byte}
    (bad : badFields b0 b1 b2 b3) :
    ScopeEntry.verify c slot [b0, b1, b2, b3, b4, b5, b6, checkByte [b0, b1, b2, b3, b4, b5, b6] c slot] = none := by
  simp only [ScopeEntry.verify, beq_self_eq_true, if_true, ScopeEntry.ofFields_bad bad]

theorem bytesNum_two (b2 b3 : Byte) : bytesNum [b2, b3] = 256 * b2.toNat + b3.toNat := by
  simp [bytesNum]

theorem bytesNum_two_eq_zero {b2 b3 : Byte} (zero : bytesNum [b2, b3] = 0) : b2 = 0 ∧ b3 = 0 := by
  rw [bytesNum_two] at zero
  exact ⟨BitVec.eq_of_toNat_eq (by simp; omega), BitVec.eq_of_toNat_eq (by simp; omega)⟩

/-- One entry that does not verify makes the whole fill bad. -/
theorem verifyAll_bad {c : ChannelNo} {k start i : Nat} {read : List Byte} (within : i < k)
    (bad : ScopeEntry.verify c (start + i) ((read.drop (8 * i)).take 8) = none) : verifyAll c k start read = none := by
  induction k generalizing start i read with
  | zero => exact absurd within (Nat.not_lt_zero i)
  | succ k ih =>
    cases i with
    | zero =>
      have first : ScopeEntry.verify c start (read.take 8) = none := bad
      simp only [verifyAll, first]
    | succ i =>
      have later : verifyAll c k (start + 1) (read.drop 8) = none := by
        refine ih (Nat.lt_of_succ_lt_succ within) ?_
        rwa [List.drop_drop, Nat.add_assoc, Nat.add_comm 1 i, show 8 + 8 * i = 8 * (i + 1) by omega]
      simp only [verifyAll, later]
      cases ScopeEntry.verify c start (read.take 8) <;> rfl

end Sys2Proof.Machine
end

section
/-! PROOFS. The obligation of the serialized entries. -/

section
open Sys2Proof Sys2Proof.Machine

/-- Settles O43, entry by entry and field by field. -/
theorem scopeEntriesReadBack : Obligations.ScopeEntriesReadBack := by
  refine ⟨fun c start es legal => ⟨serializeAll_length c start es, verifyAll_serializeAll c start legal⟩,
    fun c slot seven check => ScopeEntry.verify_badCheck, fun c slot b0 b1 b2 b3 b4 b5 b6 => ?_,
    fun c k start i read => verifyAll_bad⟩
  intro bad disposition indefinite
  refine ⟨fun three => ScopeEntry.verify_badFields (.inl three),
    fun definite other => ScopeEntry.verify_badFields (.inr (.inl ⟨definite, other⟩)),
    fun high low => ScopeEntry.verify_badFields (.inr (.inr (.inl ⟨high, low⟩))), ?_,
    fun indefinite some => ScopeEntry.verify_badFields
      (.inr (.inr (.inr (.inr ⟨indefinite, fun zero => some (bytesNum_two_eq_zero zero)⟩))))⟩
  rintro rfl rfl
  exact ScopeEntry.verify_badFields (.inr (.inr (.inr (.inl (by decide)))))

end
end

section
/-! PROOFS. The checks of a command record, and the bytes of a response. -/

namespace Sys2Proof.Machine

/-! ### Checks (R145) -/

section Checks
variable (r : CommandRecord) (required optional : List RecType)

theorem CommandRecord.has_eq_false_iff (t : RecType) : r.has t = false ↔ r.arg t = none := by
  rw [CommandRecord.has, ← Bool.not_eq_true, Option.not_isSome_iff_eq_none]

theorem CommandRecord.badForm_iff : r.badForm = true ↔
    r.nested = true ∨ r.arg Leaf.tag = none ∨ r.duplicates ≠ [] ∨ r.wrongLength = true := by
  rw [CommandRecord.badForm, Bool.or_eq_true, Bool.or_eq_true, Bool.or_eq_true, Bool.not_eq_true',
    CommandRecord.has_eq_false_iff, Bool.not_eq_true', ← Bool.not_eq_true, List.isEmpty_iff, or_assoc, or_assoc]

theorem CommandRecord.badArguments_iff : r.badArguments required optional = true ↔
    r.foreign ≠ [] ∨
      (∃ a ∈ r.args, (a.type ≠ Leaf.tag ∧ a.type ∉ required ∧ a.type ∉ optional) ∨
        argInRange a.type (bytesNum a.value) = false) ∨
      ∃ t ∈ required, r.arg t = none := by
  have taken (a : Arg) : (!(Leaf.tag :: (required ++ optional)).contains a.type) = true ↔
      a.type ≠ Leaf.tag ∧ a.type ∉ required ∧ a.type ∉ optional := by
    rw [Bool.not_eq_true', ← Bool.not_eq_true, List.contains_iff_mem, List.mem_cons, List.mem_append, not_or, not_or]
  simp only [CommandRecord.badArguments, Bool.or_eq_true, List.any_eq_true, taken, Bool.not_eq_true',
    CommandRecord.has_eq_false_iff, List.isEmpty_eq_false_iff, or_assoc]

theorem CommandRecord.check_badForm (bad : r.badForm = true) : r.check required optional = some .malformedCommand :=
  if_pos bad

theorem CommandRecord.check_badArguments (form : ¬ r.badForm = true) (bad : r.badArguments required optional = true) :
    r.check required optional = some .badArgument := by
  rw [CommandRecord.check, if_neg form, if_pos bad]

theorem CommandRecord.check_none (form : ¬ r.badForm = true) (arguments : ¬ r.badArguments required optional = true) :
    r.check required optional = none := by
  rw [CommandRecord.check, if_neg form, if_neg arguments]

end Checks

/-- Every command makes the checks of R145 first. -/
theorem checksFirst_of_mem {row : Instr × RecType × List RecType × List RecType} (mem : row ∈ commandTable) :
    ChecksFirst row.1 row.2.1 row.2.2.1 row.2.2.2 := by
  simp only [commandTable, List.cons_append, List.nil_append, List.mem_cons, List.not_mem_nil, or_false] at mem
  rcases mem with rfl | rfl | rfl | rfl | rfl | rfl | rfl | rfl | rfl | rfl | rfl | rfl | rfl | rfl
  all_goals exact checksFirst_of_runCommand _ fun _ => rfl

theorem exec_unknownCommand {s : State} {r : CommandRecord} (unit : s.mgmt.unit = .executing (.ready r))
    (unknown : r.isContainer = false ∨ r.code.toNat < 0xF01 ∨ 0xF0E < r.code.toNat) :
    exec .unknownCommand s = .next (s.Responded (responseBytes 0xE00 r.tag .unknownCommand [])) := by
  simp only [exec, execUnknownCommand, State.readyRecord, unit, r.isUnknown_iff.2 unknown, if_true]
  rfl

/-! ### Argument types (Figure 9-1) -/

theorem argLength_two {t : RecType}
    (two : t ∈ [Leaf.tag, Leaf.stallReload, Leaf.type, Leaf.remap, Leaf.limit, Leaf.position]) : argLength t = some 2 := by
  simp only [List.mem_cons, List.not_mem_nil, or_false] at two
  rcases two with rfl | rfl | rfl | rfl | rfl | rfl
  all_goals rfl

theorem argLength_one {t : RecType} (one : t ∈ [Leaf.channel, Leaf.enabled, Leaf.policySet, Leaf.windowSize,
    Leaf.maxDepth, Leaf.clear, Leaf.role, Leaf.set, Leaf.action, Leaf.countIndex, Leaf.firstIndex, Leaf.count]) :
    argLength t = some 1 := by
  simp only [List.mem_cons, List.not_mem_nil, or_false] at one
  rcases one with rfl | rfl | rfl | rfl | rfl | rfl | rfl | rfl | rfl | rfl | rfl | rfl
  all_goals rfl

theorem argLength_none {t : RecType}
    (notTwo : t ∉ [Leaf.tag, Leaf.stallReload, Leaf.type, Leaf.remap, Leaf.limit, Leaf.position])
    (notOne : t ∉ [Leaf.channel, Leaf.enabled, Leaf.policySet, Leaf.windowSize, Leaf.maxDepth, Leaf.clear, Leaf.role,
      Leaf.set, Leaf.action, Leaf.countIndex, Leaf.firstIndex, Leaf.count]) : argLength t = none := by
  refine List.lookup_eq_none_iff.2 fun row mem => bne_iff_ne.2 ?_
  rintro rfl
  simp only [argTable, List.cons_append, List.nil_append, List.mem_cons, List.not_mem_nil, or_false] at mem
  rcases mem with rfl | rfl | rfl | rfl | rfl | rfl | rfl | rfl | rfl | rfl | rfl | rfl | rfl | rfl | rfl | rfl | rfl | rfl
  all_goals simp at notTwo notOne

/-! ### The bytes of a response (R146) -/

theorem wordBytes_tagged (x : BitVec 4) (t : RecType) :
    wordBytes (x ++ t) = [x ++ t.extractLsb' 8 4, t.extractLsb' 0 8] := by
  have high : (x ++ t).extractLsb' 8 8 = x ++ t.extractLsb' 8 4 := by
    refine BitVec.eq_of_getLsbD_eq fun i hi => ?_
    simp only [BitVec.getLsbD_append, BitVec.getLsbD_extractLsb']
    by_cases low : i < 4
    · simp [low, hi, show 8 + i < 12 by omega]
    · simp [low, hi, show ¬ 8 + i < 12 by omega, show 8 + i - 12 = i - 4 by omega]
  have low : (x ++ t).extractLsb' 0 8 = t.extractLsb' 0 8 := by
    refine BitVec.eq_of_getLsbD_eq fun i hi => ?_
    simp only [BitVec.getLsbD_append, BitVec.getLsbD_extractLsb', Nat.zero_add, show i < 12 by omega, if_true]
  rw [wordBytes, high, low]

theorem wordBytes_length_word (n : Nat) :
    wordBytes (BitVec.ofNat 16 n) = [BitVec.ofNat 8 (n / 256), BitVec.ofNat 8 n] := by
  rw [wordBytes_eq_numBytes, BitVec.toNat_ofNat, numBytes_two_mod, numBytes_two]

theorem leafBytes_bytes (type : RecType) (payload : List Byte) : leafBytes type payload =
    [0x0#4 ++ type.extractLsb' 8 4, type.extractLsb' 0 8, BitVec.ofNat 8 (payload.length / 256),
      BitVec.ofNat 8 payload.length] ++ payload := by
  have header : (Header.make .leaf type (BitVec.ofNat 16 payload.length)).toBytes =
      wordBytes (0x0#4 ++ type) ++ wordBytes (BitVec.ofNat 16 payload.length) := by
    have tag : BitVec.ofBool false ++ 0#3 = 0x0#4 := by decide
    rw [← tag]
    rfl
  rw [leafBytes, header, wordBytes_tagged, wordBytes_length_word]
  rfl

theorem containerBytes_bytes (type : RecType) (children : List Byte) : containerBytes type children =
    [0x8#4 ++ type.extractLsb' 8 4, type.extractLsb' 0 8, BitVec.ofNat 8 (children.length / 256),
      BitVec.ofNat 8 children.length] ++ children := by
  have header : (Header.make .container type (BitVec.ofNat 16 children.length)).toBytes =
      wordBytes (0x8#4 ++ type) ++ wordBytes (BitVec.ofNat 16 children.length) := by
    have tag : BitVec.ofBool true ++ 0#3 = 0x8#4 := by decide
    rw [← tag]
    rfl
  rw [containerBytes, header, wordBytes_tagged, wordBytes_length_word]
  rfl

theorem numBytes_eq_map (n v : Nat) :
    numBytes n v = (List.range n).reverse.map fun i => BitVec.ofNat 8 (v / 256 ^ i) := by
  induction n with
  | zero => rfl
  | succ n ih => rw [numBytes, ih, List.range_succ, List.reverse_concat, List.map_cons]

theorem resultLeaf_eq (result : Completion) : numLeaf Leaf.result 1 result.code =
    [0, 0x02, 0, 1, BitVec.ofNat 8 result.code] := by
  rw [numLeaf_one]
  rfl

theorem tagLeaf_eq (t0 t1 : Byte) : leafBytes Leaf.tag [t0, t1] = [0, 0x01, 0, 2, t0, t1] := by
  rw [leafBytes_eq]
  simp [numBytes_two, Leaf.tag]

end Sys2Proof.Machine
end

section
/-! PROOFS. The obligation of the commands' checks. -/

section
open Sys2Proof Sys2Proof.Machine

/-- Settles O44: the checks in their order, the argument types one by one, the bytes of a response. -/
theorem commandsAreCheckedInOrder : Obligations.CommandsAreCheckedInOrder := by
  refine ⟨fun s r => exec_unknownCommand, fun row => checksFirst_of_mem, fun r required optional => ?_, fun t => ?_, ?_,
    fun r => ?_, ?_, rfl, fun type n v payload => ⟨?_, ?_⟩, rfl, rfl, rfl, rfl⟩
  · intro malformed bad
    have form := r.badForm_iff
    have arguments := r.badArguments_iff required optional
    exact ⟨fun fails => r.check_badForm _ _ (form.2 fails),
      fun passes fails => r.check_badArguments _ _ (mt form.1 passes) (arguments.2 fails),
      fun passes good => r.check_none _ _ (mt form.1 passes) (mt arguments.1 good)⟩
  · split
    · next two => exact argLength_two two
    · next notTwo =>
      split
      · next one => exact argLength_one one
      · next notOne => exact argLength_none notTwo notOne
  · intro v
    refine ⟨fun t mem => ?_, fun t mem => ?_, fun t mem => ?_, fun t mem => ?_, rfl, ?_, (Bool.decide_and _ _).symm, rfl,
      rfl, rfl, (Bool.decide_and _ _).symm⟩
    · simp only [List.mem_cons, List.not_mem_nil, or_false] at mem
      rcases mem with rfl | rfl | rfl | rfl
      all_goals rfl
    · simp only [List.mem_cons, List.not_mem_nil, or_false] at mem
      rcases mem with rfl | rfl | rfl
      all_goals rfl
    · simp only [List.mem_cons, List.not_mem_nil, or_false] at mem
      rcases mem with rfl | rfl
      all_goals rfl
    · simp only [List.mem_cons, List.not_mem_nil, or_false] at mem
      rcases mem with rfl | rfl
      all_goals exact (Bool.decide_and _ _).symm
    · have sizes : argInRange Leaf.windowSize v = (v == 0 || v == 2 || v == 4 || v == 8 || v == 16) := rfl
      rw [sizes, Bool.eq_iff_iff]
      simp [or_assoc]
  · simp only [CommandRecord.tag, List.contains_iff_mem]
    exact ⟨fun twice => if_pos twice, fun once => if_neg once⟩
  · intro type t0 t1 result leaves header code
    refine ⟨?_, ?_⟩
    · have length : (([] : List Byte) ++ [0, 0x02, 0, 1, code] ++ leaves).length = 5 + leaves.length := by
        simp only [List.length_append, List.length_cons, List.length_nil]
      rw [responseBytes, containerBytes_bytes, resultLeaf_eq, length]
      rfl
    · have length : ([0, 0x01, 0, 2, t0, t1] ++ [0, 0x02, 0, 1, code] ++ leaves).length = 11 + leaves.length := by
        simp only [List.length_append, List.length_cons, List.length_nil]
      simp only [responseBytes, tagLeaf_eq]
      rw [containerBytes_bytes, resultLeaf_eq, length]
      rfl
  · exact leafBytes_bytes type payload
  · rw [numLeaf, numBytes_eq_map]

end
end

section
/-! PROOFS. CHANNEL SET and CHANNEL RESET. -/

namespace Sys2Proof.Machine

/-! ### CHANNEL SET (R15, R149) -/

section Set
variable {s : State} {r : CommandRecord} {c : ChannelNo}

theorem exec_channelSet (carries : s.Carries 0xF03 [Leaf.channel]
    [Leaf.enabled, Leaf.policySet, Leaf.windowSize, Leaf.maxDepth, Leaf.stallReload] r) :
    exec .channelSet s = .next (s.channelSet r) := s.runCommand_eq _ _ _ _ r carries

theorem ChannelConfig.write_eq (f : ChannelConfig) (r : CommandRecord) : f.write r =
    { enabled := (r.value Leaf.enabled).elim f.enabled (· == 1)
      policySet := (r.value Leaf.policySet).elim f.policySet (Fin.ofNat 8 ·)
      windowSize := (r.value Leaf.windowSize).getD f.windowSize
      maxDepth := (r.value Leaf.maxDepth).getD f.maxDepth
      stallReload := (r.value Leaf.stallReload).getD f.stallReload } := by
  rw [ChannelConfig.write]
  congr 1
  · cases r.value Leaf.enabled <;> rfl
  · cases r.value Leaf.policySet <;> rfl

theorem CommandRecord.has_iff (t : RecType) : r.has t = true ↔ r.arg t ≠ none := Option.isSome_iff_ne_none

theorem CommandRecord.setsData_iff : r.setsData = true ↔ r.arg Leaf.enabled ≠ none ∨ r.arg Leaf.policySet ≠ none ∨
    r.arg Leaf.windowSize ≠ none ∨ r.arg Leaf.maxDepth ≠ none := by
  simp only [CommandRecord.setsData, Bool.or_eq_true, CommandRecord.has_iff, or_assoc]

theorem CommandRecord.setsLocked_iff : r.setsLocked = true ↔
    r.arg Leaf.windowSize ≠ none ∨ r.arg Leaf.maxDepth ≠ none ∨ r.value Leaf.stallReload = some 0 := by
  simp only [CommandRecord.setsLocked, Bool.or_eq_true, CommandRecord.has_iff, beq_iff_eq, or_assoc]

theorem State.channelSet_badArgument (mgmt : r.channel = s.straps.mgmtSel) (data : r.setsData = true) :
    s.channelSet r = s.Answers r .badArgument [] := by
  refine if_pos ?_
  rw [Bool.and_eq_true, Bool.not_eq_true', ← Bool.not_eq_true, s.isData_iff]
  exact ⟨not_not.2 mgmt, data⟩

section Allowed
variable (data : r.channel = s.straps.mgmtSel → ¬ r.setsData = true)
include data

theorem State.channelSet_allowed : s.channelSet r =
    if s.mgmt.phase = .operating ∧ r.setsLocked = true then s.Answers r .locked []
    else if s.isData r.channel then
      (s.setChannel r.channel r).Answers r .ok ((s.setChannel r.channel r).ch r.channel).StateBytes
    else (s.modMgmt fun m => { m with stallReload := (r.value Leaf.stallReload).getD m.stallReload }).Answers r .ok [] := by
  refine (if_neg ?_).trans ?_
  · rw [Bool.and_eq_true, Bool.not_eq_true', ← Bool.not_eq_true, s.isData_iff, not_not]
    exact fun ⟨mgmt, sets⟩ => data mgmt sets
  · simp only [← Channel.stateLeaf_eq]
    exact if_congr (by rw [Bool.and_eq_true, beq_iff_eq]) rfl rfl

theorem State.channelSet_locked (locked : s.mgmt.phase = .operating ∧ r.setsLocked = true) :
    s.channelSet r = s.Answers r .locked [] := by
  rw [State.channelSet_allowed data, if_pos locked]

variable (unlocked : ¬ (s.mgmt.phase = .operating ∧ r.setsLocked = true))
include unlocked

theorem State.channelSet_mgmt (mgmt : r.channel = s.straps.mgmtSel) : s.channelSet r =
    State.Answers { s with mgmt := { s.mgmt with stallReload := (r.value Leaf.stallReload).getD s.mgmt.stallReload } }
      r .ok [] := by
  rw [State.channelSet_allowed data, if_neg unlocked, if_neg fun isData => (s.isData_iff _).1 isData mgmt]
  rfl

theorem State.channelSet_data (notMgmt : r.channel ≠ s.straps.mgmtSel) : s.channelSet r =
    (s.setChannel r.channel r).Answers r .ok ((s.setChannel r.channel r).ch r.channel).StateBytes := by
  rw [State.channelSet_allowed data, if_neg unlocked, if_pos ((s.isData_iff _).2 notMgmt)]

end Allowed

theorem State.applyEnabled_same {before after : Bool} (disables : ¬ (before = true ∧ after = false))
    (enables : ¬ (before = false ∧ after = true)) : s.applyEnabled c before after = s := by
  cases before <;> cases after
  · rfl
  · exact absurd ⟨rfl, rfl⟩ enables
  · exact absurd ⟨rfl, rfl⟩ disables
  · rfl

theorem State.disable_resting (rests : (s.ch c).state = .held ∨ (s.ch c).state = .await) : s.disable c =
    { s with
      rx := s.rx.set c { s.rxOf c with ingress := [] }
      table := s.table.set c { s.ch c with state := .disabled } } := by
  rcases rests with state | state
  · simp only [State.disable, state]
    rfl
  · simp only [State.disable, state]
    rfl

theorem State.disable_drain (drain : (s.ch c).state = .drain) : s.disable c =
    { s with
      rx := s.rx.set c { s.rxOf c with ingress := [] }
      table := s.table.set c { s.ch c with drainExit := .disabled } } := by
  have exits : s.disable c = (s.emptyIngress c).modCh c fun ch => { ch with drainExit := .disabled } := by
    simp only [State.disable, drain]
  exact exits

theorem State.disable_open (isOpen : (s.ch c).state.messageOpen = true) : s.disable c =
    State.unwind { s with rx := s.rx.set c { s.rxOf c with ingress := [] } } c true .disabled := by
  cases state : (s.ch c).state <;> rw [state] at isOpen
  case inMessage | spillWait | fillWait =>
    simp only [State.disable, state]
    rfl
  case disabled | held | await | drain => cases isOpen

theorem State.enable_provisioning (disabled : (s.ch c).state = .disabled) (phase : s.mgmt.phase = .provisioning) :
    s.enable c = { s with table := s.table.set c { s.ch c with state := .held } } := by
  simp only [State.enable, disabled, phase]
  rfl

theorem State.enable_operating (disabled : (s.ch c).state = .disabled) (phase : s.mgmt.phase = .operating) :
    s.enable c =
      { s with
        table := s.table.set c { s.ch c with state := .await }
        rx := s.rx.set c { s.rxOf c with unsync := true } } := by
  simp only [State.enable, disabled, phase]
  rfl

theorem State.enable_drain (drain : (s.ch c).state = .drain) :
    s.enable c = { s with table := s.table.set c { s.ch c with drainExit := .await } } := by
  have exits : s.enable c = s.modCh c fun ch => { ch with drainExit := .await } := by
    simp only [State.enable, drain]
  exact exits

end Set

/-! ### CHANNEL RESET (R27, R151) -/

section Reset
variable {s : State} {r : CommandRecord} {c : ChannelNo}

theorem exec_channelReset (carries : s.Carries 0xF05 [Leaf.channel] [] r) :
    exec .channelReset s = .next (s.channelReset r) := s.runCommand_eq _ _ _ _ r carries

theorem State.resetChannel_eq (s : State) (c : ChannelNo) : s.resetChannel c =
    let v := if (s.ch c).state.messageOpen = true then s.unwind c true .await else s
    State.settleTurn
      { v with
        rx := v.rx.set c { v.rxOf c with ingress := [], unsync := true }
        table := v.table.set c { v.ch c with
          stats := { completed := 0, aborted := 0, faults := 0, degrades := 0 }
          ordinal := 0, lastFaultKind := .none, lastFaultReason := .none } } := by
  simp [State.resetChannel, State.emptyIngress, State.setRx, State.setCh, State.rxOf]
  rfl

theorem State.channelReset_mgmt (mgmt : r.channel = s.straps.mgmtSel) :
    s.channelReset r = s.Answers r .badArgument [] := by
  refine if_pos ?_
  rw [Bool.not_eq_true', ← Bool.not_eq_true, s.isData_iff]
  exact not_not.2 mgmt

theorem State.channelReset_data (notMgmt : r.channel ≠ s.straps.mgmtSel) : s.channelReset r =
    if ((s.resetChannel r.channel).ch r.channel).state = .drain then
      (s.resetChannel r.channel).modMgmt fun m => { m with unit := .executing (.channelReset r.tag r.channel) }
    else (s.resetChannel r.channel).Answers r .ok ((s.resetChannel r.channel).ch r.channel).StateBytes := by
  refine (if_neg ?_).trans ?_
  · rw [Bool.not_eq_true', ← Bool.not_eq_true, s.isData_iff]
    exact not_not.2 notMgmt
  · simp only [← Channel.stateLeaf_eq]
    exact if_congr beq_iff_eq rfl rfl

end Reset
end Sys2Proof.Machine
end

section
/-! PROOFS. The obligations of CHANNEL SET and CHANNEL RESET. -/

section
open Sys2Proof Sys2Proof.Machine

/-- Settles O47, by the refusals in their order, then by the enabled field and the channel's state. -/
theorem channelSetWritesAndActs : Obligations.ChannelSetWritesAndActs := by
  intro s r carries c data locked written u emptied disabling enabling ok
  have done := exec_channelSet carries
  have dataIff : r.setsData = true ↔ data := r.setsData_iff
  have lockedIff : (s.mgmt.phase = .operating ∧ r.setsLocked = true) ↔ locked := and_congr_right fun _ => r.setsLocked_iff
  refine ⟨fun mgmt given => ?_, fun fits given => ?_, fun mgmt none free => ?_, fun notMgmt free => ?_⟩
  · rw [done, State.channelSet_badArgument mgmt (dataIff.2 given)]
  · rw [done, State.channelSet_locked (fun mgmt => mt dataIff.1 (fits mgmt)) (lockedIff.2 given)]
  · rw [done, State.channelSet_mgmt (fun _ => mt dataIff.1 none) (mt lockedIff.1 free) mgmt]
  · have write : (s.ch c).config.write r = written := ChannelConfig.write_eq _ r
    have set : s.setChannel c r = u.applyEnabled c (s.ch c).config.enabled written.enabled := by
      simp only [State.setChannel, write]
      rfl
    have answered (t : State) (acts : u.applyEnabled c (s.ch c).config.enabled written.enabled = t) : ok t := by
      have answer := State.channelSet_data (fun mgmt => absurd mgmt notMgmt) (mt lockedIff.1 free) notMgmt
      rw [set, acts] at answer
      exact done.trans (congrArg _ answer)
    have here : u.ch c = { s.ch c with config := written } := by simp [u, State.ch]
    have state : (u.ch c).state = (s.ch c).state := by rw [here]
    refine ⟨fun disables enables => answered _ (State.applyEnabled_same disables enables), fun disables => ?_,
      fun enables => ?_⟩
    · have acts : u.applyEnabled c (s.ch c).config.enabled written.enabled = (u.disable c).settleTurn := by
        rw [disables.1, disables.2]
        rfl
      refine ⟨fun rests => answered _ ?_, fun drain => answered _ ?_, fun isOpen => answered _ ?_⟩
      · rw [acts, State.disable_resting (by rwa [state])]
        rfl
      · rw [acts, State.disable_drain (by rwa [state])]
        rfl
      · rw [acts, State.disable_open (by rwa [state])]
        rfl
    · have acts : u.applyEnabled c (s.ch c).config.enabled written.enabled = u.enable c := by
        rw [enables.1, enables.2]
        rfl
      refine ⟨fun disabled phase => answered _ ?_, fun disabled phase => answered _ ?_, fun drain => answered _ ?_⟩
      · rw [acts, State.enable_provisioning (s := u) (by rwa [state]) phase]
      · rw [acts, State.enable_operating (s := u) (by rwa [state]) phase]
        rfl
      · rw [acts, State.enable_drain (by rwa [state])]

/-- Settles O48, by whether the channel is left in DRAIN. -/
theorem channelResetStartsOver : Obligations.ChannelResetStartsOver := by
  intro s r carries c v u
  have done := exec_channelReset carries
  have reset : s.resetChannel c = u := s.resetChannel_eq c
  have state : (u.ch c).state = (v.ch c).state := by
    simp [u, State.settleTurn, State.ch]
  refine ⟨fun mgmt => ?_, fun notMgmt leaves => ?_, fun notMgmt drains => ?_⟩
  · rw [done, State.channelReset_mgmt mgmt]
  · rw [done, State.channelReset_data notMgmt, reset, if_neg (by rwa [state])]
  · rw [done, State.channelReset_data notMgmt, reset, if_pos (by rwa [state])]
    rfl

end
end

section
/-! PROOFS. POLICY READ, COMMIT and the copy, COUNTERS READ, BACKING RESTORE and PROVISION CLOSE. -/

namespace Sys2Proof.Machine

/-! ### Entries by key and by position (R105, R112, R155) -/

theorem Bank.Ordered.find_iff {b : Bank} (ordered : b.Ordered) (set : Fin 8) (type : RecType) (e : PolicyEntry) :
    b.find set type = some e ↔ e ∈ b.entries ∧ e.set = set ∧ e.type = type := by
  refine ⟨fun found => ⟨List.mem_of_find?_eq_some found, ?_⟩, ?_⟩
  · exact (e.hasKey_iff set type).1 (List.find?_some (p := fun e : PolicyEntry => e.hasKey set type) found)
  · rintro ⟨mem, rfl, rfl⟩
    exact ordered.find_eq mem

theorem Bank.Ordered.position_eq {b : Bank} (ordered : b.Ordered) (set : Fin 8) (type : RecType) :
    b.position set type =
      (b.entries.filter fun e => decide (e.set < set ∨ (e.set = set ∧ e.type.toNat < type.toNat))).length := by
  obtain ⟨front, -⟩ := ordered.split set type
  have before (e : PolicyEntry) : decide (e.set < set ∨ (e.set = set ∧ e.type.toNat < type.toNat)) = e.keyBefore set type := by
    rw [Bool.eq_iff_iff, decide_eq_true_eq, PolicyEntry.keyBefore_iff]
  have within : b.position set type ≤ b.entries.length := (List.takeWhile_prefix _).length_le
  simp only [before, ← front, List.length_take, Nat.min_eq_left within]

theorem numBytes_type_bytes (t : RecType) :
    numBytes 2 t.toNat = [(t.setWidth 16).extractLsb' 8 8, (t.setWidth 16).extractLsb' 0 8] := numBytes_type t

theorem numBytes_word (n : Nat) :
    numBytes 2 n = [(BitVec.ofNat 16 n).extractLsb' 8 8, (BitVec.ofNat 16 n).extractLsb' 0 8] := by
  have bytes := wordBytes_eq_numBytes (BitVec.ofNat 16 n)
  rw [BitVec.toNat_ofNat, numBytes_two_mod] at bytes
  exact bytes.symm

theorem PolicyEntry.leaves_eq (e : PolicyEntry) :
    let two := fun w : BitVec 16 => [w.extractLsb' 8 8, w.extractLsb' 0 8]
    e.leaves = [0, 0x21, 0, 1, BitVec.ofNat 8 e.set.val] ++ ([0, 0x22, 0, 2] ++ two (e.type.setWidth 16)) ++
      ([0, 0x23, 0, 1] ++ match e.action with
        | .pass => [(0 : Byte)]
        | .descend => [1]
        | .drop => [2]
        | .truncate _ => [3]) ++
      (match e.remap with
        | none => []
        | some t => [0, 0x24, 0, 2] ++ two (t.setWidth 16)) ++
      (match e.countIndex with
        | none => []
        | some i => [0, 0x25, 0, 1, BitVec.ofNat 8 i.val]) ++
      match e.action with
        | .truncate limit => [0, 0x26, 0, 2] ++ two (BitVec.ofNat 16 limit)
        | .pass | .descend | .drop => [] := by
  obtain ⟨set, type, action, remap, countIndex⟩ := e
  intro two
  have set' : numLeaf Leaf.set 1 set.val = [0, 0x21, 0, 1, BitVec.ofNat 8 set.val] := numLeaf_one _ _
  have type' (t : RecType) : numLeaf Leaf.type 2 t.toNat = [0, 0x22, 0, 2] ++ two (t.setWidth 16) := by
    rw [numLeaf_two, numBytes_type_bytes t]
    rfl
  have action' (n : Nat) : numLeaf Leaf.action 1 n = [0, 0x23, 0, 1, BitVec.ofNat 8 n] := numLeaf_one _ _
  have remap' (t : RecType) : numLeaf Leaf.remap 2 t.toNat = [0, 0x24, 0, 2] ++ two (t.setWidth 16) := by
    rw [numLeaf_two, numBytes_type_bytes t]
    rfl
  have index' (i : Fin 256) : numLeaf Leaf.countIndex 1 i.val = [0, 0x25, 0, 1, BitVec.ofNat 8 i.val] := numLeaf_one _ _
  have limit' (n : Nat) : numLeaf Leaf.limit 2 n = [0, 0x26, 0, 2] ++ two (BitVec.ofNat 16 n) := by
    rw [numLeaf_two, numBytes_word n]
    rfl
  simp only [PolicyEntry.leaves, set', type', action', remap', index', limit']
  cases action <;> rfl

/-! ### POLICY READ (R112, R155) -/

section Read
variable {s : State} {r : CommandRecord}

theorem exec_policyRead (carries : s.Carries 0xF08 [Leaf.role] [Leaf.set, Leaf.type, Leaf.position] r) :
    exec .policyRead s = .next (s.policyRead r) := s.runCommand_eq _ _ _ _ r carries

theorem CommandRecord.value_eq_none_iff (t : RecType) : r.value t = none ↔ r.arg t = none := Option.map_eq_none_iff

theorem CommandRecord.entryName_key (byKey : r.arg Leaf.set ≠ none ∧ r.arg Leaf.type ≠ none ∧ r.arg Leaf.position = none) :
    r.entryName = some (.key r.setArg r.typeArg) := by
  obtain ⟨set, type, position⟩ := byKey
  simp only [CommandRecord.entryName, (r.has_iff _).2 set, (r.has_iff _).2 type, (r.value_eq_none_iff _).2 position]

theorem CommandRecord.entryName_position {i : Nat} (set : r.arg Leaf.set = none) (type : r.arg Leaf.type = none)
    (position : r.value Leaf.position = some i) : r.entryName = some (.position i) := by
  simp only [CommandRecord.entryName, (r.has_eq_false_iff _).2 set, (r.has_eq_false_iff _).2 type, position]

theorem CommandRecord.entryName_none
    (notKey : ¬ (r.arg Leaf.set ≠ none ∧ r.arg Leaf.type ≠ none ∧ r.arg Leaf.position = none))
    (notPosition : ¬ (r.arg Leaf.set = none ∧ r.arg Leaf.type = none ∧ r.arg Leaf.position ≠ none)) :
    r.entryName = none := by
  simp only [CommandRecord.entryName]
  split
  · next set type position =>
    exact absurd ⟨(r.has_iff _).1 set, (r.has_iff _).1 type, (r.value_eq_none_iff _).1 position⟩ notKey
  · next i set type position =>
    have given : r.arg Leaf.position ≠ none := mt (r.value_eq_none_iff _).2 (by rw [position]; nofun)
    exact absurd ⟨(r.has_eq_false_iff _).1 set, (r.has_eq_false_iff _).1 type, given⟩ notPosition
  · rfl

theorem State.roleBank_eq (check : r.check [Leaf.role] [Leaf.set, Leaf.type, Leaf.position] = none) : s.roleBank r =
    if r.value Leaf.role = some 0 then s.policy.active else s.policy.stagingBank := by
  obtain ⟨v, value, -⟩ := r.value_of_check check List.mem_cons_self
  simp only [State.roleBank, value, Option.getD_some, beq_iff_eq, Option.some.injEq]

theorem PolicyStore.active_ne_staging (p : PolicyStore) : p.active ≠ p.stagingBank := by
  rw [PolicyStore.stagingBank]
  cases p.active <;> nofun

variable {n : BankName} (bank : s.roleBank r = n)
include bank

theorem State.policyRead_busy {name : EntryName} (named : r.entryName = some name) (staged : n = s.policy.stagingBank)
    (copying : s.policy.staging = .copying) : s.policyRead r = s.Answers r .busy [] := by
  simp only [State.policyRead, named, bank, staged, copying, beq_self_eq_true, Bool.and_self, if_true]
  rfl

variable {name : EntryName} (named : r.entryName = some name)
  (free : ¬ (n = s.policy.stagingBank ∧ s.policy.staging = .copying))
include named free

theorem State.policyRead_answers : s.policyRead r =
    s.Answers r (if ((s.policy.bank n).named name).isSome then .ok else .notFound)
      (readLeaves n (s.policy.bank n) name) := by
  simp only [State.policyRead, named, bank]
  exact if_neg (by rwa [Bool.and_eq_true, beq_iff_eq, beq_iff_eq])

theorem State.policyRead_notFound (absent : (s.policy.bank n).named name = none) : s.policyRead r =
    s.Answers r .notFound (numLeaf Leaf.bank 1 n.code ++ numLeaf Leaf.entryCount 2 (s.policy.bank n).entries.length ++
      (s.policy.bank n).defaultLeaf name) := by
  rw [State.policyRead_answers bank named free]
  simp only [readLeaves, absent, List.append_nil]
  rfl

theorem State.policyRead_found {e : PolicyEntry} {p : Nat} (found : (s.policy.bank n).named name = some (e, p)) :
    s.policyRead r =
      s.Answers r .ok (numLeaf Leaf.bank 1 n.code ++ numLeaf Leaf.entryCount 2 (s.policy.bank n).entries.length ++
        (numLeaf Leaf.position 2 p ++ e.leaves) ++ (s.policy.bank n).defaultLeaf name) := by
  rw [State.policyRead_answers bank named free]
  simp only [readLeaves, found]
  rfl

end Read

/-! ### Releases and COMMIT (R107, R113 to R115) -/

theorem PolicyStore.release_bank (p : PolicyStore) (n m : BankName) :
    (p.release n).bank m = if m = n then { p.bank n with refs := (p.bank n).refs - 1 } else p.bank m := by
  rw [← PolicyStore.bank_setBank]
  simp only [PolicyStore.release]
  split <;> rfl

theorem PolicyStore.release_staging (p : PolicyStore) (n : BankName) : (p.release n).staging =
    if n ≠ p.active ∧ p.staging = .draining ∧ (p.bank n).refs - 1 = 0 then .copying else p.staging := by
  have staged : n = p.stagingBank ↔ n ≠ p.active := by
    rw [PolicyStore.stagingBank]
    cases n <;> cases p.active <;> simp [BankName.other]
  have test : (n == p.stagingBank && p.staging == .draining && (p.bank n).refs - 1 == 0) = true ↔
      n ≠ p.active ∧ p.staging = .draining ∧ (p.bank n).refs - 1 = 0 := by
    rw [Bool.and_eq_true, Bool.and_eq_true, beq_iff_eq, beq_iff_eq, beq_iff_eq, staged, and_assoc]
  simp only [PolicyStore.release, test]
  split
  · rfl
  · cases n <;> rfl

theorem exec_commit {s : State} {r : CommandRecord} (carries : s.Carries 0xF0A [] [] r) :
    exec .commit s = .next (s.commitRoles r) := s.runCommand_eq _ _ _ _ r carries

theorem State.commitRoles_busy {s : State} (r : CommandRecord) (busy : s.policy.staging ≠ .ready) :
    s.commitRoles r = s.Answers r .busy [] := if_pos (bne_iff_ne.2 busy)

theorem State.commitRoles_ready {s : State} (r : CommandRecord) (ready : s.policy.staging = .ready) :
    let staging := if (s.policy.bank s.policy.active).refs = 0 then StagingState.copying else .draining
    s.commitRoles r = State.Answers
      { s with policy := { s.policy with active := s.policy.stagingBank, staging := staging } } r .ok
      (numLeaf Leaf.bank 1 s.policy.stagingBank.code ++ numLeaf Leaf.staging 1 staging.code) := by
  intro staging
  have next : (if 0 < (s.policy.bank s.policy.active).refs then StagingState.draining else .copying) = staging := by
    rw [← ite_not]
    exact if_congr (by omega) rfl rfl
  refine (if_neg (by rw [ready]; decide)).trans ?_
  simp only [State.modPolicy, PolicyStore.commit, next]
  rfl

/-! ### COUNTERS READ (R122, R157) -/

section Counters
variable {s : State} {r : CommandRecord} {first n : Nat}

theorem exec_countersRead (carries : s.Carries 0xF0B [Leaf.firstIndex, Leaf.count] [Leaf.clear] r) :
    exec .countersRead s = .next (s.countersRead r) := s.runCommand_eq _ _ _ _ r carries

variable (firstIndex : r.value Leaf.firstIndex = some first) (count : r.value Leaf.count = some n)
include firstIndex count

theorem State.countersRead_badArgument (beyond : 255 < first + n - 1) :
    s.countersRead r = s.Answers r .badArgument [] := by
  simp only [State.countersRead, firstIndex, count, Option.getD_some, beyond, if_true]
  rfl

theorem State.countersRead_begins (within : first + n - 1 ≤ 255) : s.countersRead r =
    { s with mgmt := { s.mgmt with
        unit := .executing (.countersRead r.tag first n (decide (r.value Leaf.clear = some 1)) []) } } := by
  have clear : r.flag Leaf.clear = decide (r.value Leaf.clear = some 1) := by
    rw [Bool.eq_iff_iff, r.flag_iff, decide_eq_true_eq]
  simp only [State.countersRead, firstIndex, count, Option.getD_some, Nat.not_lt.2 within, if_false, clear]
  rfl

end Counters

theorem exec_pairRead {s : State} {tag : Option (List Byte)} {next left : Nat} {clear : Bool} {leaves : List Byte}
    (unit : s.mgmt.unit = .executing (.countersRead tag next left clear leaves)) :
    exec .pairRead s = .next (s.readPair tag next left clear leaves) := by
  simp only [exec, execPairRead, unit]

theorem State.readPair_eq (s : State) (tag : Option (List Byte)) (i : Fin 256) (left : Nat) (clear : Bool)
    (leaves : List Byte) :
    let u := { s with counters := if clear then s.counters.set i { records := 0, bytes := 0 } else s.counters }
    let read := leaves ++ s.counters[i].leaf i.val
    s.readPair tag i.val left clear leaves =
      if left ≤ 1 then u.Responded (responseBytes 0xE0B tag .ok read)
      else { u with mgmt := { s.mgmt with unit := .executing (.countersRead tag (i.val + 1) (left - 1) clear read) } } := by
  have index : Fin.ofNat 256 i.val = i := Fin.ofNat_val_eq_self i
  have type : responseType Cmd.countersRead = 0xE0B := rfl
  intro u read
  have cleared : (if clear then { s with counters := s.counters.set i { records := 0, bytes := 0 } } else s) = u := by
    cases clear <;> rfl
  simp only [State.readPair, index, cleared, type]
  rfl

/-! ### BACKING RESTORE and PROVISION CLOSE (R158, R159, R168 to R170) -/

section Provision
variable {s : State} {r : CommandRecord}

theorem exec_backingRestore (carries : s.Carries 0xF0C [] [] r) : exec .backingRestore s = .next (s.backingRestore r) :=
  s.runCommand_eq _ _ _ _ r carries

theorem exec_provisionClose (carries : s.Carries 0xF0D [] [] r) : exec .provisionClose s = .next (s.provisionClose r) :=
  s.runCommand_eq _ _ _ _ r carries

theorem State.windowSum_eq (s : State) (cs : List ChannelNo) : s.windowSum cs =
    ((cs.filter fun d => d != s.straps.mgmtSel).map fun d => (s.ch d).config.windowSize).sum := by
  rw [State.windowSum]
  induction cs with
  | nil => rfl
  | cons c cs ih =>
    have test : s.isData c = (c != s.straps.mgmtSel) := rfl
    cases data : c != s.straps.mgmtSel with
    | false =>
      rw [List.map_cons, List.sum_cons, ih, test, data, List.filter_cons_of_neg (by rw [data]; nofun)]
      simp
    | true =>
      rw [List.map_cons, List.sum_cons, ih, test, data, List.filter_cons_of_pos (p := fun d => d != s.straps.mgmtSel) data]
      simp

theorem State.windowTotal_eq (s : State) : s.windowSum allChannels = s.WindowTotal := s.windowSum_eq _

theorem State.windowBase_eq (s : State) (c : ChannelNo) : s.windowBase c = s.AllocatedBase c := by
  rw [State.windowBase, s.windowSum_eq, List.filter_filter]
  refine if_congr (by rw [Bool.and_eq_true, s.isData_iff, decide_eq_true_eq]) (congrArg some ?_) rfl
  simp only [Bool.and_comm]

theorem State.allocateWindows_eq (s : State) : s.allocateWindows =
    { s with table := Vector.ofFn fun c => { s.ch c with window := s.AllocatedBase c } } := by
  simp only [State.allocateWindows, State.mapCh, State.windowBase_eq]

theorem State.backingRestore_badState (kept : s.spill.backing ≠ .lost) :
    s.backingRestore r = s.Answers r .badState [] := if_neg (by rwa [beq_iff_eq])

theorem State.backingRestore_lost (lost : s.spill.backing = .lost) : s.backingRestore r =
    { s with
      spill := { s.spill with pendingProbe := true }
      mgmt := { s.mgmt with unit := .executing (.backingRestore r.tag) } } := if_pos (by rw [lost]; rfl)

theorem State.provisionClose_locked (operating : s.mgmt.phase = .operating) :
    s.provisionClose r = s.Answers r .locked [] := if_pos (by rw [operating]; rfl)

variable (provisioning : s.mgmt.phase = .provisioning)
include provisioning

theorem State.provisionClose_badArgument (large : 128 < s.WindowTotal) :
    s.provisionClose r = s.Answers r .badArgument [] := by
  refine (if_neg (by rw [provisioning]; decide)).trans (if_pos ?_)
  rwa [s.windowTotal_eq]

theorem State.provisionClose_allocates (fits : s.WindowTotal ≤ 128) : s.provisionClose r =
    if s.spill.backing = .untested then s.allocateWindows.requestProbe (.provisionClose r.tag)
    else s.allocateWindows.openPart r.tag := by
  refine (if_neg (by rw [provisioning]; decide)).trans ((if_neg ?_).trans (if_congr beq_iff_eq rfl rfl))
  rw [s.windowTotal_eq]
  exact Nat.not_lt.2 fits

end Provision
end Sys2Proof.Machine
end

section
/-! PROOFS. The obligations of the remaining commands. -/

section
open Sys2Proof Sys2Proof.Machine

/-- Settles O50, by how the entry is named, and by whether one is found. -/
theorem policyReadReturnsAnEntry : Obligations.PolicyReadReturnsAnEntry := by
  refine ⟨fun b set type ordered => ⟨ordered.find_iff set type, ordered.position_eq set type⟩, PolicyEntry.leaves_eq, rfl,
    fun s r carries => ?_⟩
  intro n b head busy byKey byPosition default gives
  have done := exec_policyRead carries
  have bank : s.roleBank r = n := State.roleBank_eq carries.check
  have busyIff : (n = s.policy.stagingBank ∧ s.policy.staging = .copying) ↔ busy := by
    refine and_congr_left fun _ => ⟨fun staged active => ?_, fun notActive => if_neg notActive⟩
    have same : n = s.policy.active := if_pos active
    exact s.policy.active_ne_staging (same.symm.trans staged)
  refine ⟨fun notKey notPosition => ?_, fun named isBusy => ?_, fun key free => ⟨fun missing => ?_, fun e found => ?_⟩,
    fun ⟨noSet, noType, _⟩ free i value => ⟨fun beyond => ?_, fun e found => ?_⟩⟩
  · have none := CommandRecord.entryName_none notKey notPosition
    refine done.trans ?_
    simp only [State.policyRead, none]
    rfl
  · obtain ⟨name, named⟩ : ∃ name, r.entryName = some name := by
      rcases named with key | ⟨set, type, position⟩
      · exact ⟨_, CommandRecord.entryName_key key⟩
      · obtain ⟨i, value⟩ := Option.ne_none_iff_exists'.1 (mt (r.value_eq_none_iff _).1 position)
        exact ⟨_, CommandRecord.entryName_position set type value⟩
    obtain ⟨staged, copying⟩ := busyIff.2 isBusy
    exact done.trans (congrArg _ (State.policyRead_busy bank named staged copying))
  · have absent : b.named (.key r.setArg r.typeArg) = none := by simp only [Bank.named, missing, Option.map_none]
    have answer := State.policyRead_notFound bank (CommandRecord.entryName_key key) (mt busyIff.1 free) absent
    rw [Bank.defaultLeaf] at answer
    exact done.trans (congrArg _ answer)
  · have named : b.named (.key r.setArg r.typeArg) = some (e, b.position r.setArg r.typeArg) := by
      simp only [Bank.named, found, Option.map_some]
    have answer := State.policyRead_found bank (CommandRecord.entryName_key key) (mt busyIff.1 free) named
    rw [Bank.defaultLeaf] at answer
    exact done.trans (congrArg _ answer)
  · have absent : b.named (.position i) = none := by
      simp only [Bank.named, List.getElem?_eq_none beyond, Option.map_none]
    have answer := State.policyRead_notFound bank (CommandRecord.entryName_position noSet noType value)
      (mt busyIff.1 free) absent
    rw [Bank.defaultLeaf, List.append_nil] at answer
    exact done.trans (congrArg _ answer)
  · have named : b.named (.position i) = some (e, i) := by simp only [Bank.named, found, Option.map_some]
    have answer := State.policyRead_found bank (CommandRecord.entryName_position noSet noType value) (mt busyIff.1 free)
      named
    rw [Bank.defaultLeaf, List.append_nil] at answer
    exact done.trans (congrArg _ answer)

/-- Settles O51, by the staging state. -/
theorem commitDrainsAndCopies : Obligations.CommitDrainsAndCopies := by
  refine ⟨checksFirst_of_runCommand _ fun _ => rfl, fun s r carries => ⟨fun busy => ?_, fun ready => ?_⟩, fun p n => ?_,
    fun s copying => ?_⟩
  · rw [exec_commit carries, State.commitRoles_busy r busy]
  · exact (exec_commit carries).trans (congrArg _ (State.commitRoles_ready r ready))
  · rw [p.release_bank, if_pos rfl, p.release_bank, if_neg n.other_ne, p.release_staging]
    refine ⟨p.release_active n, rfl, rfl, fun staged draining last => ?_, fun keeps => ?_⟩
    · rw [if_pos ⟨staged, draining, by rw [last]⟩]
    · refine if_neg fun ⟨staged, draining, last⟩ => ?_
      rcases keeps with active | other | more
      · exact staged active
      · exact other draining
      · omega
  · simp only [exec, execCopyCompletion, copying]
    rfl

/-- Settles O52, by the range given and by the pairs left. -/
theorem countersAreReadPairByPair : Obligations.CountersAreReadPairByPair := by
  refine ⟨fun s r first n carries firstIndex count => ⟨fun beyond => ?_, fun within => ?_⟩,
    fun s tag i left clear leaves unit => ?_⟩
  · rw [exec_countersRead carries, State.countersRead_badArgument firstIndex count beyond]
  · rw [exec_countersRead carries, State.countersRead_begins firstIndex count within]
  · intro u read
    have step : exec .pairRead s = .next (if left ≤ 1 then u.Responded (responseBytes 0xE0B tag .ok read)
        else { u with mgmt := { s.mgmt with
          unit := .executing (.countersRead tag (i.val + 1) (left - 1) clear read) } }) :=
      (exec_pairRead unit).trans (congrArg _ (s.readPair_eq tag i left clear leaves))
    refine ⟨fun last => ?_, fun more => ?_⟩
    · rw [step, if_pos last]
    · rw [step, if_neg (Nat.not_le.2 more)]

/-- Settles O53, by the backing, the phase and the windows. -/
theorem restoreAndProvisioning : Obligations.RestoreAndProvisioning := by
  refine ⟨fun s r carries => ⟨fun kept => ?_, fun lost => ?_⟩, fun s r carries => ?_⟩
  · rw [exec_backingRestore carries, State.backingRestore_badState kept]
  · rw [exec_backingRestore carries, State.backingRestore_lost lost]
  · intro u
    have done := exec_provisionClose carries
    refine ⟨fun operating => ?_, fun provisioning large => ?_, fun provisioning fits => ?_⟩
    · rw [done, State.provisionClose_locked operating]
    · rw [done, State.provisionClose_badArgument provisioning large]
    · rw [done, State.provisionClose_allocates provisioning fits, State.allocateWindows_eq]
      refine ⟨fun untested => ?_, fun tested => ?_⟩
      · rw [if_pos untested]
        rfl
      · rw [if_neg tested, State.openPart_eq]

end
end

section
/-! PROOFS. RESTART at every block. -/

namespace Sys2Proof.Machine

section Restart
variable (s : State)

theorem exec_restart {s : State} {r : CommandRecord} (carries : s.Carries 0xF0E [] [] r) :
    exec .restart s = .next (s.restart r) := s.runCommand_eq _ _ _ _ r carries

theorem restart_leaf : numLeaf Leaf.phase 1 Phase.provisioning.code = [0x00, 0x34, 0x00, 0x01, 0x00] := by
  rw [numLeaf_one]
  rfl

/-- The Management Unit's part, with the events between the takings left out (R160). -/
theorem State.restartUnit_eq (r : CommandRecord) (code : r.code = 0xF0E) : s.restartUnit r =
    { s with
      rx := s.rx.set s.straps.mgmtSel { s.rxOf s.straps.mgmtSel with inUse := none }
      mgmt := { s.mgmt with
        unit := .responding
        response := some (responseBytes 0xE0E r.tag .ok [0x00, 0x34, 0x00, 0x01, 0x00])
        messageOpen := false, collector := Collector.empty, notices := [], lost := 0, phase := .provisioning
        returnMsg := s.mgmt.returnMsg.map ReturnMessage.restart } } := by
  have type : responseType r.code = 0xE0E := by
    rw [code]
    rfl
  have bytes : responseBytes (responseType r.code) r.tag .ok (numLeaf Leaf.phase 1 Phase.provisioning.code) =
      responseBytes 0xE0E r.tag .ok [0x00, 0x34, 0x00, 0x01, 0x00] := by
    rw [restart_leaf, type]
  simp only [State.restartUnit, State.answer, State.respond, bytes]
  rfl

/-- The blocks after RESTART, told apart by the management channel (Figure 10-3). -/
theorem State.restartBlocks_byChannel : s.restartBlocks =
    { s with
      pointer := 15
      turn := none
      table := Vector.ofFn fun c =>
        if c = s.straps.mgmtSel then s.ch c
        else { Channel.powerOn with
          config := (s.ch c).config, state := if (s.ch c).config.enabled then .held else .disabled }
      tx := Vector.ofFn fun c =>
        if c = s.straps.mgmtSel then s.txOf c
        else if (s.ch c).state.messageOpen = true ∧ (s.ch c).outputStarted = true then
          { s.txOf c with
            egress := (s.txOf c).egress ++
              [{ payload := [], som := !(s.txOf c).segmentSent, eom := false, abort := true }]
            segmentSent := true, pendingBytes := [], flushPending := false }
        else { s.txOf c with pendingBytes := [], flushPending := false }
      rx := Vector.ofFn fun c =>
        if c = s.straps.mgmtSel then { s.rxOf c with unsync := true }
        else { s.rxOf c with unsync := true, inUse := none, ingress := [] }
      spill := { s.spill with
        queue := [], inFlight := none, pendingProbe := false, failures := 0
        backing := if s.spill.backing = .absent then .absent else .untested }
      policy := { s.policy with
        bankA := { s.policy.bankA with refs := 0 }
        bankB := { s.policy.bankB with refs := 0 }
        staging := if s.policy.staging = .ready then .ready else .copying }
      mgmt := { s.mgmt with stallTimer := 0, stallArmed := false } } := by
  have channels {α : Type} (x y : ChannelNo → α) : (Vector.ofFn fun c => if s.isData c then x c else y c) =
      Vector.ofFn fun c => if c = s.straps.mgmtSel then y c else x c := by
    congr 1
    funext c
    rw [← ite_not]
    exact if_congr (by rw [s.isData_iff, not_not]) rfl rfl
  have receivers : (Vector.ofFn fun c => (s.rxOf c).restart (s.isData c)) = Vector.ofFn fun c =>
      if c = s.straps.mgmtSel then { s.rxOf c with unsync := true }
      else { s.rxOf c with unsync := true, inUse := none, ingress := [] } := channels _ _
  have transmitters : (Vector.ofFn fun c => if s.isData c then
      (s.txOf c).unwind ((s.ch c).state.messageOpen && (s.ch c).outputStarted) true else s.txOf c) = Vector.ofFn fun c =>
      if c = s.straps.mgmtSel then s.txOf c
      else if (s.ch c).state.messageOpen = true ∧ (s.ch c).outputStarted = true then
        { s.txOf c with
          egress := (s.txOf c).egress ++
            [{ payload := [], som := !(s.txOf c).segmentSent, eom := false, abort := true }]
          segmentSent := true, pendingBytes := [], flushPending := false }
      else { s.txOf c with pendingBytes := [], flushPending := false } := by
    rw [channels]
    simp only [TxChannel.unwind_eq, Bool.and_eq_true, and_true]
  rw [State.restartBlocks_eq, receivers, transmitters, channels]
  have backing : (if s.spill.backing == .absent then Backing.absent else .untested) =
      if s.spill.backing = .absent then .absent else .untested := if_congr beq_iff_eq rfl rfl
  have staging : (if s.policy.staging == .ready then StagingState.ready else .copying) =
      if s.policy.staging = .ready then .ready else .copying := if_congr beq_iff_eq rfl rfl
  simp only [SpillPort.restart, PolicyStore.restart, backing, staging]
  rfl

end Restart
end Sys2Proof.Machine
end

section
/-! PROOFS. The obligation of RESTART. -/

section
open Sys2Proof Sys2Proof.Machine

/-- Settles O54: the Management Unit takes RESTART, then the events between, then the other blocks. -/
theorem restartKeepsTheConfiguration : Obligations.RestartKeepsTheConfiguration := by
  intro s r carries u
  have done := exec_restart carries
  obtain ⟨-, -, code, -⟩ := carries
  have unit : { s.restartUnit r with duringRestart := [] } = u := by
    rw [State.restartUnit_eq s r code]
    rfl
  refine ⟨_, carriedOut_during s.duringRestart u, ?_⟩
  have straps : (s.duringRestart.foldl State.takeDuring u).straps = s.straps :=
    State.foldl_straps _ _ State.takeDuring_straps _
  rw [done, State.restart, unit, State.restartBlocks_byChannel, straps]

end
end

section
/-! PROOFS. The management stream unit by unit: a header, an argument, a payload that is skipped; and the faults of a header. -/

namespace Sys2Proof.Machine

/-! ### Runs of the collector (R143) -/

/-- What is left of a run when the bytes before have been collected. -/
def Collected.thenRun : Collected → List Byte → Collected × List Byte
  | .more c, bs => c.run bs
  | .complete c, bs => (.complete c, bs)
  | .faulted k r n, bs => (.faulted k r n, bs)

theorem Collector.run_cons (c : Collector) (b : Byte) (bs : List Byte) : c.run (b :: bs) = (c.byte b).thenRun bs := by
  simp only [Collector.run]
  cases c.byte b <;> rfl

/-- The position after bytes within the unit that is being collected. -/
def CollectPos.after : CollectPos → List Byte → CollectPos
  | .header got, bs => .header (got ++ bs)
  | .argument t left v, bs => .argument t (left - bs.length) (v ++ bs)
  | .skip left, bs => .skip (left - bs.length)
  | .topLeaf left, bs => .topLeaf (left - bs.length)

/-- How many bytes are left of the unit that is being collected. -/
def CollectPos.left : CollectPos → Nat
  | .header got => 4 - got.length
  | .argument _ left _ | .skip left | .topLeaf left => left

/-- What the last bytes of a unit do to the collector. -/
def Collector.unit (c : Collector) (bs : List Byte) : Collected :=
  match c.pos with
  | .header got =>
    match Header.ofList (got ++ bs) with
    | none => .more { c with pos := .header (got ++ bs) }
    | some h => c.header h
  | .argument t _ v => (c.modCommand fun r => r.record t (v ++ bs)).boundary
  | .skip _ => c.boundary
  | .topLeaf _ => .complete { c with pos := .header [] }

section At
variable (c : Collector) (p : CollectPos) (h : Header)

theorem Collector.topHeader_at : ({ c with pos := p } : Collector).topHeader h = c.topHeader h := rfl

theorem Collector.argumentHeader_at : ({ c with pos := p } : Collector).argumentHeader h = c.argumentHeader h := rfl

theorem Collector.nestedHeader_at : ({ c with pos := p } : Collector).nestedHeader h = c.nestedHeader h := rfl

theorem Collector.endHeader_at : ({ c with pos := p } : Collector).endHeader = c.endHeader := rfl

theorem Collector.deduct_at : ({ c with pos := p } : Collector).deduct h =
    (c.deduct h).map fun d => { d with pos := p } := by
  simp only [Collector.deduct]
  split
  · rfl
  · next sc outer _ => cases sc.mode.deductChild h <;> rfl

/-- A completed header is handled in the same way whatever the position was. -/
theorem Collector.header_at : ({ c with pos := p } : Collector).header h = c.header h := by
  rw [Collector.header, Collector.header, Collector.endHeader_at, Collector.deduct_at]
  cases headerFault h with
  | some r => rfl
  | none =>
    cases h.isEnd with
    | true => rfl
    | false =>
      cases c.deduct h with
      | none => rfl
      | some d =>
        obtain ⟨pos, scopes, command⟩ := d
        match scopes with
        | [] => rfl
        | [_] => rfl
        | _ :: _ :: _ => rfl

end At

theorem Header.ofList_eq_none {bs : List Byte} (short : bs.length ≠ 4) : Header.ofList bs = none := by
  cases spells : Header.ofList bs with
  | none => rfl
  | some h => exact absurd (Header.ofList_length spells) short

theorem Header.ofList_isSome {bs : List Byte} (four : bs.length = 4) : ∃ h, Header.ofList bs = some h := by
  match bs, four with
  | [b0, b1, b2, b3], _ => exact ⟨_, rfl⟩

theorem Collector.byte_within {c : Collector} (b : Byte) (more : 1 < c.pos.left) :
    c.byte b = .more { c with pos := c.pos.after [b] } := by
  obtain ⟨pos, scopes, command⟩ := c
  cases pos with
  | header got =>
    have short : (got ++ [b]).length ≠ 4 := by
      simp only [CollectPos.left, List.length_append, List.length_singleton] at more ⊢
      omega
    simp only [Collector.byte, Header.ofList_eq_none short, CollectPos.after]
  | argument t left v => exact if_neg (Nat.not_le.2 more)
  | skip left => exact if_neg (Nat.not_le.2 more)
  | topLeaf left => exact if_neg (Nat.not_le.2 more)

theorem Collector.byte_last {c : Collector} (b : Byte) (last : c.pos.left = 1) : c.byte b = c.unit [b] := by
  obtain ⟨pos, scopes, command⟩ := c
  cases pos with
  | header got =>
    have four : (got ++ [b]).length = 4 := by
      simp only [CollectPos.left, List.length_append, List.length_singleton] at last ⊢
      omega
    obtain ⟨h, spells⟩ := Header.ofList_isSome four
    simp only [Collector.byte, Collector.unit, spells]
  | argument t left v => exact if_pos (Nat.le_of_eq last)
  | skip left => exact if_pos (Nat.le_of_eq last)
  | topLeaf left => exact if_pos (Nat.le_of_eq last)

theorem CollectPos.left_after (p : CollectPos) (bs : List Byte) : (p.after bs).left = p.left - bs.length := by
  cases p with
  | header got => simp only [CollectPos.after, CollectPos.left, List.length_append]; omega
  | argument t left v => rfl
  | skip left => rfl
  | topLeaf left => rfl

theorem CollectPos.after_append (p : CollectPos) (xs ys : List Byte) : (p.after xs).after ys = p.after (xs ++ ys) := by
  cases p <;> simp [CollectPos.after, Nat.sub_sub]

/-- Bytes within a unit move the position only. -/
theorem Collector.run_within {c : Collector} {bs : List Byte} (more : bs.length < c.pos.left) :
    c.run bs = (.more { c with pos := c.pos.after bs }, []) := by
  induction bs generalizing c with
  | nil =>
    have same : c.pos.after [] = c.pos := by cases c.pos <;> simp [CollectPos.after]
    rw [same]
    rfl
  | cons b bs ih =>
    rw [List.length_cons] at more
    have step := Collector.byte_within (c := c) b (by omega)
    rw [Collector.run_cons, step]
    refine (ih ?_).trans ?_
    · rw [CollectPos.left_after, List.length_singleton]
      omega
    · simp only [CollectPos.after_append, List.singleton_append]

theorem Collector.unit_after (c : Collector) (xs ys : List Byte) :
    ({ c with pos := c.pos.after xs } : Collector).unit ys = c.unit (xs ++ ys) := by
  obtain ⟨pos, scopes, command⟩ := c
  cases pos with
  | header got =>
    simp only [Collector.unit, CollectPos.after, List.append_assoc]
    cases Header.ofList (got ++ (xs ++ ys)) with
    | none => rfl
    | some h => exact Collector.header_at ⟨.header got, scopes, command⟩ _ h
  | argument t left v =>
    simp only [Collector.unit, CollectPos.after, List.append_assoc]
    rfl
  | skip left => rfl
  | topLeaf left => rfl

/-- The last byte of a unit ends it. -/
theorem Collector.run_unit {c : Collector} {bs : List Byte} (whole : bs.length = c.pos.left) (some : bs ≠ [])
    (rest : List Byte) : c.run (bs ++ rest) = (c.unit bs).thenRun rest := by
  induction bs generalizing c with
  | nil => exact absurd rfl some
  | cons b bs ih =>
    rw [List.length_cons] at whole
    rw [List.cons_append, Collector.run_cons]
    by_cases last : bs = []
    · subst last
      rw [Collector.byte_last b whole.symm]
      rfl
    · have more : 1 < c.pos.left := by
        have := List.length_pos_iff.2 last
        omega
      rw [Collector.byte_within b more]
      refine (ih (c := { c with pos := c.pos.after [b] }) ?_ last).trans ?_
      · rw [CollectPos.left_after, List.length_singleton]
        omega
      · rw [Collector.unit_after, List.singleton_append]

/-- Four header bytes, some of them collected before, and what comes after. -/
theorem Collector.run_header {c : Collector} {got taken : List Byte} {h : Header} (pos : c.pos = .header got)
    (spells : Header.ofList (got ++ taken) = some h) (some : taken ≠ []) (rest : List Byte) :
    c.run (taken ++ rest) = (c.header h).thenRun rest := by
  have four := Header.ofList_length spells
  rw [List.length_append] at four
  have whole : taken.length = c.pos.left := by
    simp only [pos, CollectPos.left]
    omega
  have unit : c.unit taken = c.header h := by simp only [Collector.unit, pos, spells]
  rw [Collector.run_unit whole some, unit]

/-! ### What a run leaves of the state (R142 to R144) -/

section Parse
variable {s : State} {d : Collector} {bytes : List Byte} {eom : Bool}

theorem State.Collects.collector (collects : s.Collects d bytes eom) : s.mgmt.collector = d := by
  obtain ⟨-, collector, -⟩ := collects
  exact collector

theorem exec_mgmtParseBytes (collects : s.Collects d bytes eom) :
    exec .mgmtParseBytes s = .next (s.parseMgmt { rest := bytes, eom := eom }) := by
  obtain ⟨unit, -, used⟩ := collects
  simp only [exec, execMgmtParseBytes, unit, used]

theorem State.parse_faulted {k : FaultKind} {r : Reason} {n : Nat} {left : List Byte} (collects : s.Collects d bytes eom)
    (run : d.run bytes = (.faulted k r n, left)) : exec .mgmtParseBytes s = .next (s.StreamFaulted k r n) := by
  rw [exec_mgmtParseBytes collects, State.parseMgmt, collects.collector, run]
  exact congrArg _ (s.structuralFault_eq k r n)

theorem State.parse_complete {e : Collector} {left : List Byte} (collects : s.Collects d bytes eom)
    (run : d.run bytes = (.complete e, left)) (pos : e.pos = .header []) (scopes : e.scopes = []) :
    exec .mgmtParseBytes s = .next (s.RecordCompleted e.command left eom) := by
  rw [exec_mgmtParseBytes collects, State.parseMgmt, collects.collector, run]
  simp only [pos, scopes]
  rfl

/-- The state with the bytes of the segment in use collected. -/
def State.Parsed (s : State) (e : Collector) (eom : Bool) : State :=
  { s with
    rx := s.rx.set s.straps.mgmtSel { s.rxOf s.straps.mgmtSel with inUse := some { rest := [], eom := eom } }
    mgmt := { s.mgmt with collector := e } }

theorem State.parse_more {e : Collector} (collects : s.Collects d bytes eom) (run : d.run bytes = (.more e, [])) :
    exec .mgmtParseBytes s = .next (s.Parsed e eom).finishMgmtSegment := by
  rw [exec_mgmtParseBytes collects, State.parseMgmt, collects.collector, run]
  rfl

theorem State.Parsed_inUse (s : State) (e : Collector) (eom : Bool) :
    ((s.Parsed e eom).rxOf s.straps.mgmtSel).inUse = some { rest := [], eom := eom } := by
  simp [State.Parsed, State.rxOf]

end Parse

/-! ### Faults of a header (R144) -/

section Faults
variable {c : Collector} {h : Header}

theorem Collector.header_fault {r : Reason} (fails : headerFault h = some r) :
    c.header h = .faulted .malformed r c.scopes.length := by
  simp only [Collector.header, fails]

variable (passes : headerFault h = none)
include passes

theorem Collector.header_end (isEnd : h.isEnd = true) : c.header h = c.endHeader := by
  simp only [Collector.header, passes, isEnd, if_true]

theorem Collector.header_overrun {inner : CollectScope} {outer : List CollectScope} (notEnd : h.isEnd = false)
    (scopes : c.scopes = inner :: outer) (overruns : inner.mode.deductChild h = none) :
    c.header h = .faulted .malformed .overrun c.scopes.length := by
  simp only [Collector.header, passes, notEnd, Collector.deduct, scopes, overruns, Bool.false_eq_true, if_false]

theorem Collector.header_deep {inner parent : CollectScope} {outer : List CollectScope} (notEnd : h.isEnd = false)
    (scopes : c.scopes = inner :: parent :: outer) (fits : inner.mode.deductChild h ≠ none)
    (indefinite : h.length = 0xFFFF) : c.header h = .faulted .depth .none c.scopes.length := by
  obtain ⟨m, deducted⟩ := Option.ne_none_iff_exists'.1 fits
  simp only [Collector.header, passes, notEnd, Collector.deduct, scopes, deducted, Bool.false_eq_true, if_false,
    Collector.nestedHeader, h.isIndefinite_iff.2 indefinite, if_true, List.length_cons]

end Faults

theorem Collector.endHeader_stray {c : Collector} (stray : ∀ sc, c.scopes.head? = some sc → sc.mode ≠ .indefinite) :
    c.endHeader = .faulted .malformed .strayEnd c.scopes.length := by
  obtain ⟨pos, scopes, command⟩ := c
  cases scopes with
  | nil => rfl
  | cons sc outer =>
    cases mode : sc.mode with
    | indefinite => exact absurd mode (stray sc rfl)
    | definite n => simp only [Collector.endHeader, mode]

theorem Collector.endHeader_lateOverrun {c : Collector} {inner parent : CollectScope} {outer : List CollectScope} {r : Nat}
    (scopes : c.scopes = inner :: parent :: outer) (mode : inner.mode = .indefinite) (definite : parent.mode = .definite r)
    (late : r < 4 + inner.consumed + 4) : c.endHeader = .faulted .malformed .lateOverrun (outer.length + 1) := by
  simp only [Collector.endHeader, scopes, mode, definite, ScopeMode.deductTotal, late, if_true, List.length_cons]

end Sys2Proof.Machine
end

section
/-! PROOFS. The obligation of the management headers' faults. -/

section
open Sys2Proof Sys2Proof.Machine

/-- Settles O23, by the first test that fails. -/
theorem managementHeaderFaults : Obligations.ManagementHeaderFaults := by
  intro s got taken rest b0 b1 b2 b3 eom pos four some collects h scopes faulted
  have spells : Header.ofList (got ++ taken) = .some h := by rw [four]; rfl
  have faults {k : FaultKind} {r : Reason} {n : Nat} (fails : s.mgmt.collector.header h = .faulted k r n) :
      faulted k r n := by
    refine State.parse_faulted (left := rest) collects ?_
    rw [Collector.run_header pos spells some rest, fails]
    rfl
  refine ⟨fun r fails => faults (Collector.header_fault fails), fun passes isEnd stray => faults ?_,
    fun inner parent outer r passes isEnd nested mode definite late => faults ?_,
    fun inner outer passes notEnd nested overruns => faults (Collector.header_overrun passes notEnd nested overruns),
    fun inner parent outer passes notEnd nested fits indefinite =>
      faults (Collector.header_deep passes notEnd nested fits indefinite)⟩
  · rw [Collector.header_end passes isEnd, Collector.endHeader_stray stray]
  · rw [Collector.header_end passes isEnd, Collector.endHeader_lateOverrun nested mode definite late]

end
end

section
/-! PROOFS. Command records as the management stream carries them: what each part of a record leaves of the collector, and how
many scopes are open within it. -/

namespace Sys2Proof.Machine

/-! ### Reading bytes -/

/-- The collector reads these bytes and then stands at `out`; before their end it has `depth` scopes open, and it is at a
boundary at depth 0 at their beginning only. -/
def Collector.Reads (c : Collector) (bs : List Byte) (depth : Nat → Nat) (out : Collected) : Prop :=
  (∀ rest, c.run (bs ++ rest) = out.thenRun rest) ∧
  ∀ n < bs.length, ∃ e, c.run (bs.take n) = (.more e, []) ∧ e.scopes.length = depth n ∧
    (e.scopes = [] → e.pos = .header [] → n = 0)

namespace Collector.Reads
variable {c d e : Collector} {xs ys : List Byte} {out : Collected}

theorem congr {depth depth' : Nat → Nat} (reads : c.Reads xs depth out) (same : ∀ n < xs.length, depth n = depth' n) :
    c.Reads xs depth' out := by
  refine ⟨reads.1, fun n within => ?_⟩
  obtain ⟨e, run, scopes, boundary⟩ := reads.2 n within
  exact ⟨e, run, scopes.trans (same n within), boundary⟩

/-- One unit: the scopes change at its last byte only. -/
theorem unit (whole : xs.length = c.pos.left) (some : xs ≠ []) : c.Reads xs (fun _ => c.scopes.length) (c.unit xs) := by
  refine ⟨Collector.run_unit whole some, fun n within => ?_⟩
  have short : (xs.take n).length < c.pos.left := by
    rw [List.length_take]
    omega
  refine ⟨_, Collector.run_within short, rfl, fun _ pos => ?_⟩
  cases position : c.pos with
  | header got =>
    simp only [position, CollectPos.after, CollectPos.header.injEq, List.append_eq_nil_iff, List.take_eq_nil_iff] at pos
    exact pos.2.resolve_right some
  | argument t left v => simp [position, CollectPos.after] at pos
  | skip left => simp [position, CollectPos.after] at pos
  | topLeaf left => simp [position, CollectPos.after] at pos

/-- Bytes read one part after the other. -/
theorem append {first later depth : Nat → Nat} (front : c.Reads xs first (.more e)) (back : e.Reads ys later out)
    (inside : e.scopes = [] → e.pos ≠ .header []) (early : ∀ n < xs.length, first n = depth n)
    (late : ∀ n < ys.length, later n = depth (xs.length + n)) : c.Reads (xs ++ ys) depth out := by
  have onward (zs : List Byte) : c.run (xs ++ zs) = e.run zs := front.1 zs
  refine ⟨fun rest => ?_, fun n within => ?_⟩
  · rw [List.append_assoc, onward, back.1]
  · rw [List.length_append] at within
    rcases Nat.lt_or_ge n xs.length with before | past
    · obtain ⟨f, run, scopes, boundary⟩ := front.2 n before
      rw [List.take_append_of_le_length (Nat.le_of_lt before)]
      exact ⟨f, run, scopes.trans (early n before), boundary⟩
    · obtain ⟨m, rfl⟩ := Nat.exists_eq_add_of_le past
      obtain ⟨f, run, scopes, boundary⟩ := back.2 m (by omega)
      refine ⟨f, ?_, scopes.trans (late m (by omega)), fun none pos => ?_⟩
      · rw [List.take_length_add_append, onward, run]
      · obtain rfl := boundary none pos
        obtain rfl : e = f := by
          have same := congrArg Prod.fst run
          exact Collected.more.inj same
        exact absurd pos (inside none)

/-- A header read from a boundary. -/
theorem header {h : Header} (pos : c.pos = .header []) : c.Reads h.toBytes (fun _ => c.scopes.length) (c.header h) := by
  have length : h.toBytes.length = 4 := Header.ofList_length (Header.ofList_toBytes h)
  have read := unit (c := c) (xs := h.toBytes) (by rw [length, pos]; rfl) (fun none => by rw [none] at length; cases length)
  have result : c.unit h.toBytes = c.header h := by
    simp only [Collector.unit, pos, List.nil_append, Header.ofList_toBytes]
  rwa [result] at read

/-- A payload that is skipped. -/
theorem skipped (front : c.Reads xs (fun _ => d.scopes.length) (d.skipPayload ys.length)) (inside : d.scopes ≠ []) :
    c.Reads (xs ++ ys) (fun _ => d.scopes.length) d.boundary := by
  cases ys with
  | nil => rwa [List.append_nil]
  | cons b bs =>
    have back : ({ d with pos := .skip (b :: bs).length } : Collector).Reads (b :: bs) (fun _ => d.scopes.length)
        d.boundary := unit (c := { d with pos := .skip (b :: bs).length }) rfl (List.cons_ne_nil b bs)
    exact append front back (fun none => absurd none inside) (fun _ _ => rfl) fun _ _ => rfl

end Collector.Reads

/-! ### Scopes and headers of legal records -/

/-- A definite scope has room for `n` more bytes. -/
def ScopeMode.Fits (m : ScopeMode) (n : Nat) : Prop := ∀ r, m = .definite r → n ≤ r

/-- The mode after a child of `n` bytes. -/
def ScopeMode.less : ScopeMode → Nat → ScopeMode
  | .definite r, n => .definite (r - n)
  | .indefinite, _ => .indefinite

/-- A definite scope of the management stream is never larger than a consumed count can be. -/
def ScopeMode.Small (m : ScopeMode) : Prop := ∀ r, m = .definite r → r ≤ consumedMax

namespace ScopeMode
variable {m : ScopeMode} {n k : Nat}

theorem Fits.mono (fits : m.Fits n) (le : k ≤ n) : m.Fits k := fun r definite => le.trans (fits r definite)

theorem Fits.less (fits : m.Fits (n + k)) : (m.less n).Fits k := by
  intro r definite
  cases m with
  | definite q =>
    have room := fits q rfl
    cases definite
    omega
  | indefinite => cases definite

theorem Small.less (small : m.Small) (n : Nat) : (m.less n).Small := by
  intro r definite
  cases m with
  | definite q =>
    have size := small q rfl
    cases definite
    omega
  | indefinite => cases definite

theorem less_less (m : ScopeMode) (n k : Nat) : (m.less n).less k = m.less (n + k) := by
  cases m with
  | definite r => exact congrArg ScopeMode.definite (Nat.sub_sub r n k)
  | indefinite => rfl

theorem deductTotal_fits (fits : m.Fits n) : m.deductTotal n = some (m.less n) := by
  cases m with
  | definite r => exact if_neg (Nat.not_lt.2 (fits r rfl))
  | indefinite => rfl

variable {h : Header}

theorem deductChild_bounded (bounded : h.isIndefinite = false) (fits : m.Fits h.size) :
    m.deductChild h = some (m.less h.size) := by
  cases m with
  | definite r =>
    simp only [deductChild, bounded, Bool.false_eq_true, if_false]
    exact if_neg (Nat.not_lt.2 (fits r rfl))
  | indefinite => rfl

theorem deductChild_indefinite (indefinite : h.isIndefinite = true) (fits : m.Fits 4) : m.deductChild h = some m := by
  cases m with
  | definite r =>
    simp only [deductChild, indefinite, if_true]
    exact if_neg (Nat.not_lt.2 (fits r rfl))
  | indefinite => rfl

end ScopeMode

/-- What a header of a record of type other than 0 passes. -/
structure Header.Opens (h : Header) : Prop where
  passes : headerFault h = none
  notEnd : h.isEnd = false

section Legal
variable {form : Form} {type : RecType} {n : Nat} (named : type ≠ 0)
include named

theorem Header.isEnd_of_named {h : Header} (same : h.type = type) : h.isEnd = false := by
  have other : (h.type == 0) = false := beq_eq_false_iff_ne.2 (same ▸ named)
  rw [Header.isEnd, other, Bool.and_false, Bool.false_and]

theorem Header.make_indefinite : (Header.make .container type 0xFFFF).Opens :=
  ⟨headerFault_none rfl (.inl named) (fun leaf => by cases leaf.1), Header.isEnd_of_named named rfl⟩

variable (short : n ≤ 65534)
include short

omit named in
theorem Header.make_length : (Header.make form type (BitVec.ofNat 16 n)).length.toNat = n := by
  rw [Header.make, BitVec.toNat_ofNat]
  omega

omit named in
theorem Header.make_isIndefinite : (Header.make form type (BitVec.ofNat 16 n)).isIndefinite = false := by
  refine (Header.isIndefinite_eq_false_iff _).2 fun max => ?_
  have length := Header.make_length (form := form) (type := type) short
  rw [max] at length
  have number : (0xFFFF : BitVec 16).toNat = 65535 := rfl
  omega

theorem Header.make_opens : (Header.make form type (BitVec.ofNat 16 n)).Opens :=
  ⟨headerFault_none rfl (.inl named) fun max =>
    (Header.isIndefinite_eq_false_iff _).1 (Header.make_isIndefinite (type := type) short) max.2,
    Header.isEnd_of_named named rfl⟩

end Legal

end Sys2Proof.Machine
end

section
/-! PROOFS. The records inside a command, and the command records themselves, read whole. -/

namespace Sys2Proof.Machine

/-! ### Headers of records, by the scopes open -/

section Header
variable {c : Collector} {h : Header} (opens : h.Opens)
include opens

theorem Collector.header_top (scopes : c.scopes = []) : c.header h = c.topHeader h := by
  simp only [Collector.header, opens.passes, opens.notEnd, Collector.deduct, scopes, Bool.false_eq_true, if_false]

theorem Collector.header_argument {sc : CollectScope} {m : ScopeMode} (scopes : c.scopes = [sc])
    (deducted : sc.mode.deductChild h = some m) : ∃ k,
      c.header h = ({ c with scopes := [{ mode := m, consumed := k }] } : Collector).argumentHeader h := by
  refine ⟨satAdd consumedMax sc.consumed (if h.isIndefinite then 0 else h.size), ?_⟩
  simp only [Collector.header, opens.passes, opens.notEnd, Collector.deduct, scopes, deducted, Bool.false_eq_true, if_false]

theorem Collector.header_nested {sc p : CollectScope} (scopes : c.scopes = [sc, p]) (mode : sc.mode = .indefinite)
    (bounded : h.isIndefinite = false) : c.header h =
      ({ c with scopes :=
        [{ mode := .indefinite, consumed := satAdd consumedMax sc.consumed h.size }, p] } : Collector).skipPayload
          h.length.toNat := by
  simp only [Collector.header, opens.passes, opens.notEnd, Collector.deduct, scopes, mode, ScopeMode.deductChild,
    Collector.nestedHeader, bounded, Bool.false_eq_true, if_false]

end Header

theorem Collector.boundary_open {c : Collector} {sc : CollectScope} {outer : List CollectScope}
    (scopes : c.scopes = sc :: outer) (more : sc.mode ≠ .definite 0) : c.boundary = .more { c with pos := .header [] } := by
  rw [Collector.boundary]
  split
  · next none =>
    cases scopes.symm.trans none
    exact absurd rfl more
  · rfl

theorem Collector.boundary_closed {c : Collector} {sc : CollectScope} {outer : List CollectScope}
    (scopes : c.scopes = sc :: outer) (used : sc.mode = .definite 0) :
    c.boundary = .complete { c with pos := .header [], scopes := [] } := by
  obtain ⟨mode, consumed⟩ := sc
  obtain rfl : mode = .definite 0 := used
  rw [Collector.boundary]
  split
  · rfl
  · next other => exact absurd scopes (other _ _)

/-! ### The children of an indefinite container -/

theorem endRecord_spells : Header.ofList [0, 0, 0, 0] = some (Header.make .leaf 0 0) := by decide

/-- An End record read from a boundary. -/
theorem Collector.Reads.endRecord {c : Collector} (pos : c.pos = .header []) :
    c.Reads [0, 0, 0, 0] (fun _ => c.scopes.length) c.endHeader := by
  have read := Collector.Reads.unit (c := c) (xs := [0, 0, 0, 0]) (by rw [pos]; rfl) (List.cons_ne_nil _ _)
  have result : c.unit [0, 0, 0, 0] = c.endHeader := by
    simp only [Collector.unit, pos, List.nil_append, endRecord_spells]
    exact Collector.header_end (by decide) (by decide)
  rwa [result] at read

theorem Collector.endHeader_nested {c : Collector} {k k' : Nat} {m : ScopeMode}
    (scopes : c.scopes = [{ mode := .indefinite, consumed := k }, { mode := m, consumed := k' }])
    (fits : m.Fits (4 + k + 4)) : ∃ j, c.endHeader =
      ({ c with scopes := [{ mode := m.less (4 + k + 4), consumed := j }] } : Collector).boundary := by
  refine ⟨satAdd consumedMax k' (4 + k + 4), ?_⟩
  simp only [Collector.endHeader, scopes, ScopeMode.deductTotal_fits fits]

theorem InnerRecord.bytes_length (r : InnerRecord) : r.bytes.length = 4 + r.payload.length := by
  rw [InnerRecord.bytes, List.length_append, Header.ofList_length (Header.ofList_toBytes _)]

/-- The children of an indefinite container inside a command, with its End record. -/
theorem Collector.Reads.children {c : Collector} {m : ScopeMode} {k k' : Nat} {children : List InnerRecord}
    (pos : c.pos = .header []) (legal : ∀ r ∈ children, LegalRecord r.type r.payload)
    (scopes : c.scopes = [{ mode := .indefinite, consumed := k }, { mode := m, consumed := k' }])
    (fits : m.Fits (4 + (k + (children.flatMap InnerRecord.bytes).length) + 4)) (small : m.Small) :
    ∃ j, c.Reads (children.flatMap InnerRecord.bytes ++ [0, 0, 0, 0]) (fun _ => 2)
      ({ c with scopes := [{ mode := m.less (4 + (k + (children.flatMap InnerRecord.bytes).length) + 4)
                             consumed := j }] } : Collector).boundary := by
  induction children generalizing c k with
  | nil =>
    obtain ⟨j, closes⟩ := Collector.endHeader_nested scopes fits
    have read := Collector.Reads.endRecord pos
    rw [scopes, closes] at read
    exact ⟨j, read⟩
  | cons r children ih =>
    obtain ⟨⟨named, short⟩, later⟩ := List.forall_mem_cons.1 legal
    have opens := Header.make_opens (form := r.form) named short
    have bounded := Header.make_isIndefinite (form := r.form) (type := r.type) short
    have length := Header.make_length (form := r.form) (type := r.type) short
    have header := Collector.Reads.header (h := Header.make r.form r.type (BitVec.ofNat 16 r.payload.length)) pos
    rw [Collector.header_nested opens scopes rfl bounded, scopes, Header.size, length] at header
    have child := Collector.Reads.skipped header (List.cons_ne_nil _ _)
    rw [Collector.boundary_open rfl (by nofun)] at child
    have size : ((r :: children).flatMap InnerRecord.bytes).length =
        4 + r.payload.length + (children.flatMap InnerRecord.bytes).length := by
      rw [List.flatMap_cons, List.length_append, r.bytes_length]
    rw [size] at fits ⊢
    have total : m.less (4 + (satAdd consumedMax k (4 + r.payload.length) +
        (children.flatMap InnerRecord.bytes).length) + 4) =
        m.less (4 + (k + (4 + r.payload.length + (children.flatMap InnerRecord.bytes).length)) + 4) ∧
        m.Fits (4 + (satAdd consumedMax k (4 + r.payload.length) + (children.flatMap InnerRecord.bytes).length) + 4) := by
      cases m with
      | indefinite => exact ⟨rfl, by nofun⟩
      | definite q =>
        have room := fits q rfl
        have limit := small q rfl
        have exactly : satAdd consumedMax k (4 + r.payload.length) = k + (4 + r.payload.length) :=
          Nat.min_eq_right (by omega)
        rw [exactly, Nat.add_assoc k]
        exact ⟨rfl, fits⟩
    obtain ⟨same, room⟩ := total
    obtain ⟨j, rest⟩ := ih (c := { c with
      pos := .header []
      scopes := [{ mode := .indefinite, consumed := satAdd consumedMax k (4 + r.payload.length) },
        { mode := m, consumed := k' }] }) rfl later rfl room
    rw [same] at rest
    refine ⟨j, ?_⟩
    rw [List.flatMap_cons, List.append_assoc]
    exact Collector.Reads.append child rest (fun none => absurd none (List.cons_ne_nil _ _)) (fun _ _ => rfl) fun _ _ => rfl

/-! ### The records inside a command -/

theorem leafBytes_length (type : RecType) (payload : List Byte) : (leafBytes type payload).length = 4 + payload.length := by
  rw [leafBytes, List.length_append, Header.ofList_length (Header.ofList_toBytes _)]

theorem containerBytes_length (type : RecType) (payload : List Byte) :
    (containerBytes type payload).length = 4 + payload.length := by
  rw [containerBytes, List.length_append, Header.ofList_length (Header.ofList_toBytes _)]

theorem Item.bytes_indefinite_length (type : RecType) (children : List InnerRecord) :
    (Item.indefinite type children).bytes.length = 4 + (0 + (children.flatMap InnerRecord.bytes).length) + 4 := by
  rw [Item.bytes, List.length_append, List.length_append, Header.ofList_length (Header.ofList_toBytes _), Nat.zero_add]
  rfl

theorem Item.bytes_pos (i : Item) : 0 < i.bytes.length := by
  cases i with
  | leaf type payload => rw [Item.bytes, leafBytes_length]; omega
  | definite type payload => rw [Item.bytes, containerBytes_length]; omega
  | indefinite type children => rw [Item.bytes_indefinite_length]; omega

theorem items_eq_nil {items : List Item} (none : items.flatMap Item.bytes = []) : items = [] := by
  cases items with
  | nil => rfl
  | cons i items =>
    rw [List.flatMap_cons] at none
    exact absurd (List.append_eq_nil_iff.1 none).1 (List.length_pos_iff.1 i.bytes_pos)

/-- The collector with a record noted and its bytes taken from the command scope. -/
def Collector.Noted (c : Collector) (i : Item) (m : ScopeMode) (k : Nat) : Collector :=
  { c with scopes := [{ mode := m.less i.bytes.length, consumed := k }], command := i.noted c.command }

theorem CommandRecord.record_eq (r : CommandRecord) (type : RecType) (payload : List Byte) : r.record type payload =
    if r.arg type = none then { r with args := r.args ++ [{ type := type, value := payload }] }
    else { r with duplicates := r.duplicates ++ [type] } := by
  rw [CommandRecord.record, ← ite_not]
  refine if_congr ?_ rfl rfl
  rw [Bool.not_eq_true, CommandRecord.has_eq_false_iff]

section Argument
variable {c : Collector} {h : Header}

theorem Collector.argumentHeader_definite (form : h.form = .container) (bounded : h.isIndefinite = false) :
    c.argumentHeader h = (c.modCommand fun r => { r with nested := true }).skipPayload h.length.toNat := by
  simp only [Collector.argumentHeader, form, bounded, Bool.false_eq_true, if_false]

theorem Collector.argumentHeader_indefinite (form : h.form = .container) (indefinite : h.isIndefinite = true) :
    c.argumentHeader h = .more { c with
      pos := .header []
      scopes := { mode := .indefinite, consumed := 0 } :: c.scopes
      command := { c.command with nested := true } } := by
  simp only [Collector.argumentHeader, form, indefinite, if_true]
  rfl

variable (form : h.form = .leaf)
include form

theorem Collector.argumentHeader_foreign (foreign : argLength h.type = none) : c.argumentHeader h =
    (c.modCommand fun r => { r with foreign := r.foreign ++ [h.type] }).skipPayload h.length.toNat := by
  simp only [Collector.argumentHeader, form, foreign]

variable {n : Nat} (argument : argLength h.type = some n)
include argument

theorem Collector.argumentHeader_argument (length : h.length.toNat = n) :
    c.argumentHeader h = .more { c with pos := .argument h.type n [] } := by
  simp only [Collector.argumentHeader, form, argument, length, beq_self_eq_true, if_true]

theorem Collector.argumentHeader_wrongLength (length : h.length.toNat ≠ n) : c.argumentHeader h =
    (c.modCommand fun r => { r with wrongLength := true }).skipPayload h.length.toNat := by
  simp only [Collector.argumentHeader, form, argument, beq_iff_eq, length, if_false]

end Argument

/-- The depth within the first record of a command. -/
theorem itemDepth_singleton_of_plain {i : Item} (plain : ∀ type children, i ≠ .indefinite type children) (n : Nat) :
    itemDepth [i] n = 0 := by
  cases i with
  | leaf type payload => simp only [itemDepth, ite_self]
  | definite type payload => simp only [itemDepth, ite_self]
  | indefinite type children => exact absurd rfl (plain type children)

section Item
variable {c : Collector} {m : ScopeMode} {k : Nat} {type : RecType} {payload : List Byte}
  (pos : c.pos = .header []) (scopes : c.scopes = [{ mode := m, consumed := k }])
include pos scopes

/-- A header of a legal record inside the command scope, and what is asked for its payload. -/
theorem Collector.Reads.inner {form : Form} (legal : LegalRecord type payload) (fits : m.Fits (4 + payload.length)) :
    ∃ j, c.Reads (Header.make form type (BitVec.ofNat 16 payload.length)).toBytes (fun _ => 1)
      (({ c with scopes := [{ mode := m.less (4 + payload.length), consumed := j }] } : Collector).argumentHeader
        (Header.make form type (BitVec.ofNat 16 payload.length))) := by
  obtain ⟨named, short⟩ := legal
  have size : (Header.make form type (BitVec.ofNat 16 payload.length)).size = 4 + payload.length := by
    rw [Header.size, Header.make_length short]
  obtain ⟨j, header⟩ := Collector.header_argument (Header.make_opens (form := form) named short) scopes
    (ScopeMode.deductChild_bounded (Header.make_isIndefinite short) (by rwa [size]))
  have read := Collector.Reads.header (h := Header.make form type (BitVec.ofNat 16 payload.length)) pos
  rw [header, scopes, size] at read
  exact ⟨j, read⟩

theorem Collector.Reads.leaf (legal : LegalRecord type payload) (fits : m.Fits (leafBytes type payload).length) :
    ∃ j, c.Reads (leafBytes type payload) (fun _ => 1) (c.Noted (.leaf type payload) m j).boundary := by
  rw [leafBytes_length] at fits
  obtain ⟨j, read⟩ := Collector.Reads.inner (form := .leaf) pos scopes legal fits
  have length : (Header.make .leaf type (BitVec.ofNat 16 payload.length)).length.toNat = payload.length :=
    Header.make_length legal.2
  refine ⟨j, ?_⟩
  have noted (r : CommandRecord) (same : (Item.leaf type payload).noted c.command = r) :
      c.Noted (.leaf type payload) m j =
        { c with scopes := [{ mode := m.less (4 + payload.length), consumed := j }], command := r } := by
    rw [Collector.Noted, Item.bytes, leafBytes_length, same]
  cases argument : argLength type with
  | none =>
    rw [noted { c.command with foreign := c.command.foreign ++ [type] } (by simp only [Item.noted, argument])]
    rw [Collector.argumentHeader_foreign rfl argument, length] at read
    exact Collector.Reads.skipped read (List.cons_ne_nil _ _)
  | some n =>
    by_cases exactly : payload.length = n
    · rw [noted (c.command.record type payload)
        (by simp only [Item.noted, argument, exactly, ne_eq, not_true, if_false, CommandRecord.record_eq])]
      rw [Collector.argumentHeader_argument rfl argument (length.trans exactly)] at read
      have some : payload ≠ [] := List.length_pos_iff.1 (exactly ▸ argLength_pos argument)
      have value := Collector.Reads.unit (c := { c with
        pos := .argument type n [], scopes := [{ mode := m.less (4 + payload.length), consumed := j }] }) exactly some
      exact Collector.Reads.append read value (fun none => absurd none (List.cons_ne_nil _ _)) (fun _ _ => rfl)
        fun _ _ => rfl
    · rw [noted { c.command with wrongLength := true } (by simp only [Item.noted, argument, ne_eq, exactly, not_false_eq_true,
        if_true])]
      rw [Collector.argumentHeader_wrongLength rfl argument (by rwa [length]), length] at read
      exact Collector.Reads.skipped read (List.cons_ne_nil _ _)

theorem Collector.Reads.definite (legal : LegalRecord type payload) (fits : m.Fits (containerBytes type payload).length) :
    ∃ j, c.Reads (containerBytes type payload) (fun _ => 1) (c.Noted (.definite type payload) m j).boundary := by
  rw [containerBytes_length] at fits
  obtain ⟨j, read⟩ := Collector.Reads.inner (form := .container) pos scopes legal fits
  have length : (Header.make .container type (BitVec.ofNat 16 payload.length)).length.toNat = payload.length :=
    Header.make_length legal.2
  rw [Collector.argumentHeader_definite rfl (Header.make_isIndefinite legal.2), length] at read
  refine ⟨j, ?_⟩
  rw [Collector.Noted, Item.bytes, containerBytes_length]
  exact Collector.Reads.skipped read (List.cons_ne_nil _ _)

theorem Collector.Reads.indefinite {children : List InnerRecord} (named : type ≠ 0)
    (legal : ∀ r ∈ children, LegalRecord r.type r.payload) (fits : m.Fits (Item.indefinite type children).bytes.length)
    (small : m.Small) : ∃ j, c.Reads (Item.indefinite type children).bytes (fun n => if 4 ≤ n then 2 else 1)
      (c.Noted (.indefinite type children) m j).boundary := by
  have opens := Header.make_indefinite named
  have indefinite : (Header.make .container type 0xFFFF).isIndefinite = true := rfl
  have size := Item.bytes_indefinite_length type children
  obtain ⟨j, header⟩ := Collector.header_argument opens scopes
    (ScopeMode.deductChild_indefinite indefinite (fits.mono (by omega)))
  have read := Collector.Reads.header (h := Header.make .container type 0xFFFF) pos
  rw [header, scopes, Collector.argumentHeader_indefinite rfl indefinite] at read
  rw [size] at fits
  obtain ⟨i, inside⟩ := Collector.Reads.children (c := { c with
    pos := .header []
    scopes := [{ mode := .indefinite, consumed := 0 }, { mode := m, consumed := j }]
    command := { c.command with nested := true } }) rfl legal rfl fits small
  have four : (Header.make .container type 0xFFFF).toBytes.length = 4 :=
    Header.ofList_length (Header.ofList_toBytes _)
  refine ⟨i, ?_⟩
  rw [Collector.Noted, size, Item.bytes, List.append_assoc]
  refine Collector.Reads.append read inside (fun none => absurd none (List.cons_ne_nil _ _)) (fun n early => ?_)
    fun n _ => ?_
  · rw [if_neg (by omega)]
    rfl
  · rw [if_pos (by omega)]

theorem Collector.Reads.item {i : Item} (legal : i.Legal) (fits : m.Fits i.bytes.length) (small : m.Small) :
    ∃ j, c.Reads i.bytes (fun n => 1 + itemDepth [i] n) (c.Noted i m j).boundary := by
  cases i with
  | leaf type payload =>
    obtain ⟨j, read⟩ := Collector.Reads.leaf pos scopes legal fits
    exact ⟨j, read.congr fun n _ => by rw [itemDepth_singleton_of_plain (by nofun)]⟩
  | definite type payload =>
    obtain ⟨j, read⟩ := Collector.Reads.definite pos scopes legal fits
    exact ⟨j, read.congr fun n _ => by rw [itemDepth_singleton_of_plain (by nofun)]⟩
  | indefinite type children =>
    obtain ⟨named, children⟩ := legal
    obtain ⟨j, read⟩ := Collector.Reads.indefinite pos scopes named children fits small
    refine ⟨j, read.congr fun n within => ?_⟩
    simp only [itemDepth, if_neg (Nat.not_le.2 within)]
    split <;> rfl

end Item

theorem itemDepth_cons_within {i : Item} {items : List Item} {n : Nat} (within : n < i.bytes.length) :
    itemDepth (i :: items) n = itemDepth [i] n := by
  simp only [itemDepth, if_neg (Nat.not_le.2 within)]

theorem itemDepth_cons_past (i : Item) (items : List Item) (n : Nat) :
    itemDepth (i :: items) (i.bytes.length + n) = itemDepth items n := by
  simp only [itemDepth, if_pos (Nat.le_add_right _ _), Nat.add_sub_cancel_left]

/-- How a command record ends: with the last byte of its definite scope, or with an End record. -/
def CommandEnds (m : ScopeMode) (length : Nat) (tail : List Byte) : Prop :=
  (m = .definite length ∧ tail = []) ∨ (m = .indefinite ∧ tail = [0, 0, 0, 0])

/-- The records inside a command up to its end. -/
theorem Collector.Reads.items {c : Collector} {m : ScopeMode} {k : Nat} {items : List Item} {tail : List Byte}
    (pos : c.pos = .header []) (scopes : c.scopes = [{ mode := m, consumed := k }]) (legal : ∀ i ∈ items, i.Legal)
    (ends : CommandEnds m (items.flatMap Item.bytes).length tail) (small : m.Small)
    (some : items.flatMap Item.bytes ++ tail ≠ []) :
    c.Reads (items.flatMap Item.bytes ++ tail) (fun n => 1 + itemDepth items n)
      (.complete { pos := .header [], scopes := [], command := items.foldl Item.noted c.command }) := by
  induction items generalizing c m k with
  | nil =>
    rcases ends with ⟨-, rfl⟩ | ⟨rfl, rfl⟩
    · exact absurd rfl some
    · have read := Collector.Reads.endRecord pos
      rw [scopes] at read
      have closes : c.endHeader = .complete { pos := .header [], scopes := [], command := c.command } := by
        simp only [Collector.endHeader, scopes]
      rw [closes] at read
      exact read
  | cons i items ih =>
    obtain ⟨first, later⟩ := List.forall_mem_cons.1 legal
    rw [List.flatMap_cons, List.length_append] at ends
    have fits : m.Fits i.bytes.length := by
      rcases ends with ⟨rfl, -⟩ | ⟨rfl, -⟩
      · rintro r ⟨⟩
        omega
      · nofun
    obtain ⟨j, read⟩ := Collector.Reads.item pos scopes first fits small
    have next : CommandEnds (m.less i.bytes.length) (items.flatMap Item.bytes).length tail := by
      rcases ends with ⟨rfl, close⟩ | ⟨rfl, close⟩
      · exact .inl ⟨by rw [ScopeMode.less, Nat.add_sub_cancel_left], close⟩
      · exact .inr ⟨rfl, close⟩
    rw [List.flatMap_cons, List.append_assoc]
    by_cases finished : items.flatMap Item.bytes ++ tail = []
    · obtain ⟨last, none⟩ := List.append_eq_nil_iff.1 finished
      obtain rfl := items_eq_nil last
      have used : m.less i.bytes.length = .definite 0 := by
        rcases next with ⟨mode, -⟩ | ⟨-, close⟩
        · exact mode
        · cases none.symm.trans close
      rw [Collector.boundary_closed rfl used] at read
      rw [finished, List.append_nil]
      exact read
    · have more : m.less i.bytes.length ≠ .definite 0 := by
        rcases next with ⟨mode, rfl⟩ | ⟨mode, -⟩
        · rw [mode, ne_eq, ScopeMode.definite.injEq, List.length_eq_zero_iff]
          rwa [List.append_nil] at finished
        · rw [mode]
          nofun
      rw [Collector.boundary_open rfl more] at read
      refine Collector.Reads.append read
        (ih (c := { c.Noted i m j with pos := .header [] }) rfl rfl later next (small.less _) finished)
        (fun none => absurd none (List.cons_ne_nil _ _)) (fun n within => ?_) fun n _ => ?_
      · rw [itemDepth_cons_within (items := items) within]
      · rw [itemDepth_cons_past]

end Sys2Proof.Machine
end

section
/-! PROOFS. A command record of the management stream from its first byte to its last, whole or cut into segments. -/

namespace Sys2Proof.Machine

/-! ### A command record read whole -/

/-- The collector at the boundary after a completed record. -/
def StreamRecord.collector (q : StreamRecord) : Collector := { pos := .header [], scopes := [], command := q.completed }

section Record
variable {d : Collector} {code : RecType} (pos : d.pos = .header []) (scopes : d.scopes = [])
include pos scopes

/-- A container at depth 0, with what stands in it and its end. -/
theorem Collector.Reads.command {h : Header} {m : ScopeMode} {items : List Item} {tail : List Byte} {b : Bool}
    (opens : h.Opens) (form : h.form = .container) (type : h.type = code)
    (mode : (if h.isIndefinite then ScopeMode.indefinite else .definite h.length.toNat) = m)
    (legal : ∀ i ∈ items, i.Legal) (ends : CommandEnds m (items.flatMap Item.bytes).length tail) (small : m.Small) :
    d.Reads (h.toBytes ++ (items.flatMap Item.bytes ++ tail)) (StreamRecord.command b code items).depthAt
      (.complete (StreamRecord.command b code items).collector) := by
  have read := Collector.Reads.header (h := h) pos
  have four : h.toBytes.length = 4 := Header.ofList_length (Header.ofList_toBytes h)
  have opened : d.topHeader h = ({ d with
      command := { CommandRecord.empty with isContainer := true, code := code }
      scopes := [{ mode := m, consumed := 0 }] } : Collector).boundary := by
    simp only [Collector.topHeader, form, type, mode]
  rw [Collector.header_top opens scopes, scopes, opened] at read
  by_cases bare : items.flatMap Item.bytes ++ tail = []
  · obtain ⟨none, noTail⟩ := List.append_eq_nil_iff.1 bare
    obtain rfl := items_eq_nil none
    have used : m = .definite 0 := by
      rcases ends with ⟨definite, -⟩ | ⟨-, close⟩
      · exact definite
      · cases noTail.symm.trans close
    rw [Collector.boundary_closed rfl used] at read
    rw [bare, List.append_nil]
    refine read.congr fun n within => ?_
    rw [StreamRecord.depthAt, if_neg (by omega)]
    rfl
  · have more : m ≠ .definite 0 := by
      rcases ends with ⟨definite, close⟩ | ⟨indefinite, -⟩
      · rw [close, List.append_nil] at bare
        rw [definite, ne_eq, ScopeMode.definite.injEq, List.length_eq_zero_iff]
        exact bare
      · rw [indefinite]
        nofun
    rw [Collector.boundary_open rfl more] at read
    refine Collector.Reads.append read (Collector.Reads.items rfl rfl legal ends small bare)
      (fun none => absurd none (List.cons_ne_nil _ _)) (fun n early => ?_) fun n _ => ?_
    · rw [StreamRecord.depthAt, if_neg (by omega)]
      rfl
    · rw [StreamRecord.depthAt, four, if_pos (by omega), Nat.add_sub_cancel_left]

/-- A leaf at depth 0 is a record of its own. -/
theorem Collector.Reads.topLeaf {payload : List Byte} (legal : LegalRecord code payload) :
    d.Reads (leafBytes code payload) (fun _ => 0) (.complete (StreamRecord.leaf code payload).collector) := by
  obtain ⟨named, short⟩ := legal
  have opens := Header.make_opens (form := .leaf) named short
  have length := Header.make_length (form := .leaf) (type := code) short
  have read := Collector.Reads.header (h := Header.make .leaf code (BitVec.ofNat 16 payload.length)) pos
  rw [Collector.header_top opens scopes, scopes] at read
  by_cases bare : payload = []
  · subst bare
    have opened : d.topHeader (Header.make .leaf code (BitVec.ofNat 16 0)) =
        .complete (StreamRecord.leaf code []).collector := by
      simp only [Collector.topHeader, scopes]
      rfl
    rw [List.length_nil, opened] at read
    rw [leafBytes, List.append_nil]
    exact read
  · have some : ((Header.make .leaf code (BitVec.ofNat 16 payload.length)).length == 0) = false := by
      rw [beq_eq_false_iff_ne]
      intro zero
      rw [zero] at length
      exact bare (List.length_eq_zero_iff.1 length.symm)
    have opened : d.topHeader (Header.make .leaf code (BitVec.ofNat 16 payload.length)) =
        .more { (StreamRecord.leaf code payload).collector with pos := .topLeaf payload.length } := by
      simp only [Collector.topHeader, some, length, scopes, Bool.false_eq_true, if_false]
      rfl
    rw [opened] at read
    have value := Collector.Reads.unit
      (c := { (StreamRecord.leaf code payload).collector with pos := .topLeaf payload.length }) rfl bare
    exact Collector.Reads.append read value (fun _ => nofun) (fun _ _ => rfl) fun _ _ => rfl

/-- A command record is read whole, and leaves the collector at a boundary. -/
theorem Collector.Reads.record {q : StreamRecord} (legal : q.Legal) : d.Reads q.bytes q.depthAt (.complete q.collector) := by
  cases q with
  | leaf code payload => exact Collector.Reads.topLeaf pos scopes legal
  | command definite code items =>
    obtain ⟨named, items, size⟩ := legal
    cases definite with
    | true =>
      have short := size rfl
      have read := Collector.Reads.command (b := true) (tail := []) pos scopes
        (Header.make_opens (form := .container) named short) rfl rfl
        (by rw [Header.make_isIndefinite short, Header.make_length short]; rfl) items (.inl ⟨rfl, rfl⟩)
        (by rintro r ⟨⟩; exact short.trans (by decide))
      rwa [List.append_nil] at read
    | false =>
      have read := Collector.Reads.command (b := false) (tail := [0, 0, 0, 0]) (m := .indefinite) pos scopes
        (Header.make_indefinite named) rfl rfl rfl items (.inr ⟨rfl, rfl⟩) nofun
      rwa [← List.append_assoc] at read

end Record

theorem StreamRecord.bytes_pos (q : StreamRecord) : 0 < q.bytes.length := by
  have four (h : Header) : h.toBytes.length = 4 := Header.ofList_length (Header.ofList_toBytes h)
  cases q with
  | leaf code payload => rw [StreamRecord.bytes, leafBytes_length]; omega
  | command definite code items =>
    cases definite with
    | true => rw [StreamRecord.bytes, containerBytes_length]; omega
    | false =>
      rw [StreamRecord.bytes, List.length_append, List.length_append, four]
      omega

/-! ### A command record cut into segments -/

theorem Collector.run_append {c e : Collector} {xs : List Byte} (run : c.run xs = (.more e, [])) (ys : List Byte) :
    c.run (xs ++ ys) = e.run ys := by
  induction xs generalizing c with
  | nil =>
    cases run
    rfl
  | cons b xs ih =>
    rw [Collector.run_cons] at run
    rw [List.cons_append, Collector.run_cons]
    cases step : c.byte b with
    | more d =>
      rw [step] at run
      exact ih run
    | complete d =>
      rw [step] at run
      cases run
    | faulted k r n =>
      rw [step] at run
      cases run

/-- The collector after the first `i` bytes of a record that it has not completed. -/
def Collector.taken (d : Collector) (bytes : List Byte) (i : Nat) : Collector :=
  match d.run (bytes.take i) with
  | (.more c, _) => c
  | _ => d

section Taken
variable {d : Collector} {bytes : List Byte} {depth : Nat → Nat} {out : Collected} {i : Nat}
  (reads : d.Reads bytes depth out)

theorem Collector.taken_zero (d : Collector) (bytes : List Byte) : d.taken bytes 0 = d := rfl

include reads

theorem Collector.Reads.run_take (within : i < bytes.length) : d.run (bytes.take i) = (.more (d.taken bytes i), []) := by
  obtain ⟨e, run, -⟩ := reads.2 i within
  rw [Collector.taken, run]

theorem Collector.Reads.taken_depth (within : i < bytes.length) : (d.taken bytes i).scopes.length = depth i := by
  obtain ⟨e, run, scopes, -⟩ := reads.2 i within
  rw [Collector.taken, run]
  exact scopes

theorem Collector.Reads.taken_inside (within : i < bytes.length) (begun : i ≠ 0) :
    ¬ ((d.taken bytes i).scopes = [] ∧ (d.taken bytes i).pos = .header []) := by
  obtain ⟨e, run, -, boundary⟩ := reads.2 i within
  rw [Collector.taken, run]
  exact fun ⟨scopes, pos⟩ => begun (boundary scopes pos)

/-- The run goes on from the collector after the bytes taken so far. -/
theorem Collector.Reads.run_taken (within : i < bytes.length) (ys : List Byte) :
    (d.taken bytes i).run ys = d.run (bytes.take i ++ ys) :=
  (Collector.run_append (reads.run_take within) ys).symm

theorem Collector.Reads.taken_part {n : Nat} (within : i + n < bytes.length) :
    (d.taken bytes i).run ((bytes.drop i).take n) = (.more (d.taken bytes (i + n)), []) := by
  rw [reads.run_taken (by omega), ← List.take_add, reads.run_take within]

theorem Collector.Reads.taken_rest (within : i < bytes.length) (rest : List Byte) :
    (d.taken bytes i).run (bytes.drop i ++ rest) = out.thenRun rest := by
  rw [reads.run_taken within, ← List.append_assoc, List.take_append_drop, reads.1]

end Taken

/-! ### The segment in use after bytes of a record (R142) -/

section Parsed
variable (s : State) (e : Collector)

theorem State.Parsed_used (eom : Bool) : ((s.Parsed e eom).rxOf (s.Parsed e eom).straps.mgmtSel).inUse =
    some { rest := [], eom := eom } := s.Parsed_inUse e eom

theorem State.finish_used : (s.Parsed e false).finishMgmtSegment =
    { s with
      rx := s.rx.set s.straps.mgmtSel { s.rxOf s.straps.mgmtSel with inUse := none }
      mgmt := { s.mgmt with collector := e } } := by
  rw [State.finishMgmtSegment_used (s.Parsed_used e false)]
  simp [State.Parsed, State.rxOf]

theorem State.Parsed_closed (eom : Bool) : (s.Parsed e eom).MgmtClosed = s.MgmtClosed := by
  simp [State.Parsed, State.MgmtClosed, State.rxOf]

variable {e}

theorem State.finish_clean (scopes : e.scopes = []) (pos : e.pos = .header []) :
    (s.Parsed e true).finishMgmtSegment = s.MgmtClosed := by
  rw [State.finishMgmtSegment_clean (s.Parsed_used e true) scopes pos, State.Parsed_closed]

theorem State.finish_ragged (inside : ¬ (e.scopes = [] ∧ e.pos = .header [])) :
    (s.Parsed e true).finishMgmtSegment = s.StreamFaulted .ragged .none e.scopes.length := by
  rw [State.finishMgmtSegment_ragged (s.Parsed_used e true) inside, State.StreamFaulted, State.Parsed_closed]
  rfl

end Parsed

/-! ### A command of arguments -/

/-- The record in the stream of a command with these arguments. -/
def commandOf (code : RecType) (args : List Arg) : StreamRecord :=
  .command true code (args.map fun a => Item.leaf a.type a.value)

theorem argumentItems_bytes (args : List Arg) :
    (args.map fun a => Item.leaf a.type a.value).flatMap Item.bytes = args.flatMap fun a => leafBytes a.type a.value :=
  List.flatMap_map ..

theorem commandOf_bytes (code : RecType) (args : List Arg) : (commandOf code args).bytes = commandBytes code args := by
  rw [commandOf, StreamRecord.bytes, commandBytes, argumentItems_bytes]

theorem argLength_mem {t : RecType} {n : Nat} (argument : argLength t = some n) : (t, n) ∈ argTable := by
  rw [argLength, List.lookup_eq_some_iff] at argument
  obtain ⟨before, after, table, -⟩ := argument
  rw [table]
  exact List.mem_append_right _ List.mem_cons_self

theorem argLength_type_ne {t : RecType} {n : Nat} (argument : argLength t = some n) : t ≠ 0 := by
  have all : ∀ row ∈ argTable, row.1 ≠ 0 := by decide
  exact all _ (argLength_mem argument)

theorem argLength_le {t : RecType} {n : Nat} (argument : argLength t = some n) : n ≤ 2 := by
  have all : ∀ row ∈ argTable, row.2 ≤ 2 := by decide
  exact all _ (argLength_mem argument)

section Args
variable {args : List Arg} (lengths : ∀ a ∈ args, argLength a.type = some a.value.length)

include lengths in
theorem arguments_bytes_le : (args.flatMap fun a => leafBytes a.type a.value).length ≤ 6 * args.length := by
  induction args with
  | nil => exact Nat.le_refl 0
  | cons a args ih =>
    obtain ⟨first, later⟩ := List.forall_mem_cons.1 lengths
    have short := argLength_le first
    have rest := ih later
    rw [List.flatMap_cons, List.length_append, leafBytes_length, List.length_cons]
    omega

variable (distinct : (args.map Arg.type).Nodup)
include lengths distinct

theorem arguments_length_le : args.length ≤ argTable.length := by
  have within : args.map Arg.type ⊆ argTable.map Prod.fst := by
    intro t mem
    obtain ⟨a, present, rfl⟩ := List.mem_map.1 mem
    exact List.mem_map.2 ⟨_, argLength_mem (lengths a present), rfl⟩
  have count := (List.Nodup.subperm distinct within).length_le
  rwa [List.length_map, List.length_map] at count

theorem commandOf_legal {code : RecType} (named : code ≠ 0) : (commandOf code args).Legal := by
  refine ⟨named, fun i mem => ?_, fun _ => ?_⟩
  · obtain ⟨a, present, rfl⟩ := List.mem_map.1 mem
    have short := argLength_le (lengths a present)
    exact ⟨argLength_type_ne (lengths a present), by omega⟩
  · have size := arguments_bytes_le lengths
    have count := arguments_length_le lengths distinct
    have table : argTable.length = 18 := rfl
    rw [argumentItems_bytes]
    omega

end Args

theorem Item.noted_argument {r : CommandRecord} {a : Arg} (argument : argLength a.type = some a.value.length)
    (absent : r.arg a.type = none) : (Item.leaf a.type a.value).noted r = { r with args := r.args ++ [a] } := by
  simp only [Item.noted, argument, ne_eq, not_true, absent, if_false, if_true]

/-- Distinct arguments, each of its type's length, are recorded in their order. -/
theorem noted_arguments {r : CommandRecord} {args : List Arg} (lengths : ∀ a ∈ args, argLength a.type = some a.value.length)
    (distinct : (args.map Arg.type).Nodup) (absent : ∀ a ∈ args, r.arg a.type = none) :
    (args.map fun a => Item.leaf a.type a.value).foldl Item.noted r = { r with args := r.args ++ args } := by
  induction args generalizing r with
  | nil => simp
  | cons a args ih =>
    obtain ⟨first, later⟩ := List.forall_mem_cons.1 lengths
    obtain ⟨new, others⟩ := List.forall_mem_cons.1 absent
    rw [List.map_cons, List.nodup_cons] at distinct
    obtain ⟨fresh, distinct⟩ := distinct
    rw [List.map_cons, List.foldl_cons, Item.noted_argument first new, ih later distinct]
    · simp
    · intro b mem
      have other : (a.type == b.type) = false := beq_eq_false_iff_ne.2 fun same => fresh (same ▸ List.mem_map_of_mem mem)
      have before := others b mem
      simp only [CommandRecord.arg, Option.map_eq_none_iff] at before ⊢
      simp [List.find?_append, before, other]

theorem commandOf_completed {args : List Arg} (code : RecType)
    (lengths : ∀ a ∈ args, argLength a.type = some a.value.length) (distinct : (args.map Arg.type).Nodup) :
    (commandOf code args).completed =
      { isContainer := true, code := code, args := args, nested := false, duplicates := [], wrongLength := false
        foreign := [] } := by
  rw [commandOf, StreamRecord.completed, noted_arguments lengths distinct fun _ _ => rfl, List.nil_append]

end Sys2Proof.Machine
end

section
/-! PROOFS. The obligation of the command records. -/

section
open Sys2Proof Sys2Proof.Machine

/-- Settles O22: the record is read whole from the boundary it begins at; a segment that ends within it leaves the collector
after the bytes so far; and the items of a command of arguments note just those. -/
theorem commandRecordIsCollected : Obligations.CommandRecordIsCollected := by
  have whole (s : State) (q : StreamRecord) (rest : List Byte) (eom : Bool) (legal : q.Legal)
      (pos : s.mgmt.collector.pos = .header []) (scopes : s.mgmt.collector.scopes = [])
      (collects : s.Collects s.mgmt.collector (q.bytes ++ rest) eom) :
      exec .mgmtParseBytes s = .next (s.RecordCompleted q.completed rest eom) :=
    State.parse_complete collects ((Collector.Reads.record pos scopes legal).1 rest) rfl rfl
  refine ⟨whole, fun q d legal pos scopes => ?_, fun s code args rest eom pos scopes named collects lengths distinct => ?_⟩
  · have reads := Collector.Reads.record pos scopes legal
    refine ⟨d.taken q.bytes, d.taken_zero q.bytes, fun i n s eom within collects => ?_, fun i s rest eom within collects => ?_⟩
    · have parsed := State.parse_more collects (reads.taken_part within)
      refine ⟨?_, ?_, ?_⟩
      · rintro rfl
        rw [parsed, State.finish_used]
      · rintro rfl start
        rw [start, d.taken_zero q.bytes] at parsed
        rw [parsed, s.finish_clean scopes pos]
      · rintro rfl begun
        rw [parsed, s.finish_ragged (reads.taken_inside within begun), reads.taken_depth within]
    · exact State.parse_complete collects (reads.taken_rest within rest) rfl rfl
  · rw [← commandOf_bytes] at collects
    have completed := whole s (commandOf code args) rest eom (commandOf_legal lengths distinct named) pos scopes collects
    rwa [commandOf_completed code lengths distinct] at completed

end
end
